-- ==== Sys2Proof/Word.lean ====
section
/-! DEFINITION. The byte of a record or frame and the level of a line. -/

namespace Sys2Proof

/-- One byte of a record, a frame or a measurement word. -/
abbrev Byte := BitVec 8

/-- The level of a digital line; every line is active high (section 11.1). -/
inductive Level where
  | clear
  | asserted
  deriving DecidableEq, Repr

end Sys2Proof
end

