-- ==== Sys2Proof/Syntax.lean ====
section
/-! DEFINITION. The commands: one constructor per row of spec/opcode_table.json. -/

namespace Sys2Proof

/-- A command: a request taken, an event, a timer's expiry or a sampled input. The requests take their
operands from the request buffer (R170; log 9); a sensor input carries two consecutive samples of its
line (R134; log 8). -/
inductive Instr where
  /-- POWER_ON, with the strap lines as they are read in that event (R41, R178). -/
  | powerOn (station : Fin 8) (power flush : Fin 16)
  /-- LISTEN_TIMER_EXPIRY (R41). -/
  | listenTimerExpiry
  /-- POWER_WARN: the first asserted sample of the line (R60, R136). -/
  | powerWarn
  /-- REQUEST_ARRIVAL: the bytes of one job link frame (R169, R183). -/
  | requestArrival (frame : List Byte)
  /-- JOB_LINK_FRAME_DISCARD (R169). -/
  | jobLinkFrameDiscard
  /-- JOB_LINK_BYTE_TIMEOUT (R169). -/
  | jobLinkByteTimeout
  /-- RESPONSE_SENT (R170). -/
  | responseSent
  /-- UNKNOWN_REQUEST (R171). -/
  | unknownRequest
  /-- SETUP (R172). -/
  | setup
  /-- LOAD_CONDITION (R20). -/
  | loadCondition
  /-- LOAD_PATH (R9). -/
  | loadPath
  /-- LOAD_PART (R19). -/
  | loadPart
  /-- CLEAR_STORE (R21). -/
  | clearStore
  /-- START_JOB (R45). -/
  | startJob
  /-- VALIDATION_WALK_END (R13). -/
  | validationWalkEnd
  /-- HOLD (R46). -/
  | hold
  /-- RESUME (R48). -/
  | resume
  /-- ABORT (R49). -/
  | abort
  /-- SKIP_PART (R50, R51). -/
  | skipPart
  /-- READ_STATUS (R173). -/
  | readStatus
  /-- READ_PART (R174). -/
  | readPart
  /-- READ_PEERS (R174). -/
  | readPeers
  /-- READ_REPORTS (R176). -/
  | readReports
  /-- RESET_STATION (R62). -/
  | resetStation
  /-- SERVO_PERIOD_EXPIRY (R98). -/
  | servoPeriodExpiry
  /-- PULSE_MEASUREMENT: the two bytes of the measurement word (R81, R180). -/
  | pulseMeasurement (delay voltage : Byte)
  /-- EMISSION (R67). -/
  | emission
  /-- DROP_INPUT_CHANGE: two consecutive samples of DROP (R31). -/
  | dropInputChange (first second : Level)
  /-- DROP_WINDOW_EXPIRY (R33). -/
  | dropWindowExpiry
  /-- LIMIT_INPUT: two consecutive samples of LIMIT (R54). -/
  | limitInput (first second : Level)
  /-- WIRE_LOW_INPUT: two consecutive samples of WIRE_LOW (R54). -/
  | wireLowInput (first second : Level)
  /-- CUTTER_DONE: two consecutive samples of CUTTER_DONE (R122). -/
  | cutterDone (first second : Level)
  /-- CUT_TIP_TIMEOUT (R122). -/
  | cutTipTimeout
  /-- SAG_BLANK_EXPIRY (R124). -/
  | sagBlankExpiry
  /-- ANNEAL_EXPIRY (R124). -/
  | annealExpiry
  /-- SUPPLY_SAG: two consecutive samples of SUPPLY_SAG (R124). -/
  | supplySag (first second : Level)
  /-- JET_WAIT_LIMIT_EXPIRY (R125). -/
  | jetWaitLimitExpiry
  /-- CONTACT: two consecutive samples of CONTACT (R126). -/
  | contact (first second : Level)
  /-- FEED_TIMEOUT (R126). -/
  | feedTimeout
  /-- TENSION_OK_CHANGE: two consecutive samples of TENSION_OK (R127, R133). -/
  | tensionOkChange (first second : Level)
  /-- TENSION_TIMEOUT (R127). -/
  | tensionTimeout
  /-- TENSION_CHECK_EXPIRY (R132). -/
  | tensionCheckExpiry
  /-- TRANSMIT_START, with the time in us the line has been idle (R152; log 7). -/
  | transmitStart (idle : Nat)
  /-- TRANSMISSION_COMPLETE (R153). -/
  | transmissionComplete
  /-- COLLISION (R153). -/
  | collision
  /-- NOTICE_ARRIVAL: the bytes of one cell line frame (R158, R160, R182). -/
  | noticeArrival (frame : List Byte)
  /-- CELL_FRAME_DISCARD (R151). -/
  | cellFrameDiscard
  /-- SPACING_TIMER_EXPIRY (R152). -/
  | spacingTimerExpiry
  /-- LINE_TIMER_EXPIRY (R154). -/
  | lineTimerExpiry
  /-- REFRESH_TIMER_EXPIRY (R156). -/
  | refreshTimerExpiry
  /-- PEER_EXPIRY of one station's entry (R159). -/
  | peerExpiry (station : Fin 8)
  /-- SETTLE_TIMER_EXPIRY (R164). -/
  | settleTimerExpiry
  deriving DecidableEq, Repr

end Sys2Proof
end

