-- ==== Sys2Proof/Decode.lean ====
section
/-! DEFINITION. What a table word spells. The opcode table gives no row any bits (log 28). -/

namespace Sys2Proof

/-- The command a word spells by the bits of spec/opcode_table.json: no row has any, so none (log 28). -/
def decodeTableWord (_nbits _w : Nat) : Option Instr := none

end Sys2Proof
end

