-- ==== Sys2Proof/Config.lean ====
section
/-! DEFINITION. The fixed numbers the spec gives the part, and the values it leaves open. -/

namespace Sys2Proof.Config

/-- Listen timer, ms (R41). -/
def listenTime : Nat := 250
/-- CUT_TIP timer, ms (R122). -/
def cutTipTime : Nat := 2000
/-- ANNEAL timer, ms (R124). -/
def annealTime : Nat := 1200
/-- Sag blank timer, ms (R124). -/
def sagBlankTime : Nat := 2
/-- Jet wait limit, ms (R125). -/
def jetWaitTime : Nat := 120000
/-- FEED timer in HOLE mode, ms (R126). -/
def feedHoleTime : Nat := 15000
/-- FEED timer in SLOT mode, ms (R126). -/
def feedSlotTime : Nat := 25000
/-- TENSION timer, ms (R127). -/
def tensionTime : Nat := 3000
/-- Tension check of an EARLY_DROP cut, ms (R132). -/
def tensionCheckTime : Nat := 300
/-- Spacing timer, ms (R152). -/
def spacingTime : Nat := 2
/-- Line timer, ms (R154). -/
def lineTime : Nat := 20
/-- Refresh timer, ms (R156). -/
def refreshTime : Nat := 50
/-- Settle timer, ms (R164). -/
def settleTime : Nat := 60
/-- Idle line needed in READY, us (R152). -/
def readyIdle : Nat := 100
/-- Step of the backoff idle time, us (R152). -/
def backoffStep : Nat := 150
/-- Fixed anneal draw (R90). -/
def annealDraw : Nat := 6
/-- Vo, the open-gap reference, 0.5 V steps (R99). -/
def openReference : Nat := 240
/-- Entries of the near set of the Retreat History (R109). -/
def nearSet : Nat := 4
/-- Places of the Retreat History (R109). -/
def historySize : Nat := 32
/-- Places of the Segment Queue (R75). -/
def queueSize : Nat := 16
/-- Places of the Report Queue (R175). -/
def reportSize : Nat := 32
/-- Records of the Path Store (R1). -/
def storeRecords : Nat := 4096
/-- Bytes of one path record (section 11.5). -/
def recordBytes : Nat := 20
/-- Records one pass contour may walk (R11). -/
def walkBudget : Nat := 65536
/-- Greatest call depth (R3). -/
def maxDepth : Nat := 15
/-- STUCK_SHORT's count (R114). -/
def stuckLimit : Nat := 200

/-- FREE VALUE (log 16). The sweep, in units of 2^-512 rad, of an arc whose written end is its own
centre: the radius tests of R8 pass at r = 1000 nm exactly, and the direction of such an end has no value.
Applied to clockwise (1) or counter-clockwise (0) and to the start less the centre. It is read modulo a
full turn, the range R8 gives every sweep. -/
opaque centreSweep : Nat → Int → Int → Nat

/-- FREE VALUE (log 19). The bytes of an absent path point or tab point in a READ PART response, but for the
absent code that section 11.5 gives: the spec states no value for them. Applied to the field (0 progress,
1 and 2 the coordinates and the condition of the tab point, 3 break point), the part number and the report
clock at the read. -/
opaque absentBytes : Nat → Nat → Nat → Nat

end Sys2Proof.Config
end

