-- ==== Sys2Proof/Machine/State.lean ====
section
/-! DEFINITION. The state of the part, block by block as 00_scope.md lists the blocks, its faults and
refusals, and the state right after reset. INVENTORY.md names the rule and the reset value of each field. -/

namespace Sys2Proof.Machine

abbrev PartNo := Fin 32
abbrev CondNo := Fin 16
abbrev StationNo := Fin 8
/-- Index of a path record; its sums wrap around the store as reading does (R3). -/
abbrev PathIndex := Fin 4096

/-- A machine coordinate pair, nm. -/
structure Point where
  x : Int
  y : Int
  deriving DecidableEq, Repr

/-- Passes 1-3 and S (separation). -/
inductive Pass where
  | first | second | third | separation
  deriving DecidableEq, Repr

/-- A point of a part's path: pass, segment ordinal and progress in nm. -/
structure PathPoint where
  pass : Pass
  ordinal : Nat
  progress : Nat
  deriving DecidableEq, Repr

/-- The causes of section 11.6, in the order of their codes 1-36. -/
inductive Cause where
  | normal | early | presumed | noDrop
  | threadLimit | breakLimit | nesting | coordRange | arcGeometry | outsideTravel | invalidRecord | host
  | tabThread
  | abort | halt | power | reset
  | travelLimit | wireExhausted | wireCutFailed | duplicateStation | skipRun
  | annealSag | jetWait | noContact | noTension
  | wireBreak | stuckShort | retreatExhausted
  | noSetup | startHoleTravel | targetRange | conditionUnloaded | unterminated | tabPlacement
  | tabMissing
  deriving DecidableEq, Repr

/-- The causes a FAULT entry may carry (R72). -/
inductive FetchFault where
  | nesting | coordRange | arcGeometry | outsideTravel | invalidRecord
  deriving DecidableEq, Repr

/-- The halt codes of R40 other than NONE. -/
inductive HaltCode where
  | travelLimit | wireExhausted | wireCutFailed | duplicateStation | skipRun
  deriving DecidableEq, Repr

/-- The break-class conditions (R55). -/
inductive BreakCondition where
  | wireBreak | stuckShort | retreatExhausted
  deriving DecidableEq, Repr

/-- The failures of a thread attempt (R128). -/
inductive ThreadFailure where
  | annealSag | jetWait | noContact | noTension
  deriving DecidableEq, Repr

/-- Part states (R18). -/
inductive PartState where
  | uncut | active | interrupted | tabbed | separating | released | hung | skipped
  deriving DecidableEq, Repr

/-- Separation stages (R18). -/
inductive Stage where
  | off | cut | window
  deriving DecidableEq, Repr

/-- One value for each of passes 1-3, absent beyond the pass count (R17). -/
structure PerPass where
  first : Option Nat
  second : Option Nat
  third : Option Nat
  deriving DecidableEq, Repr

/-- A tab point (R28). -/
structure TabPoint where
  at_ : Point
  record : PathIndex
  cond : CondNo
  deriving DecidableEq, Repr

/-- One part record: the host-set fields of R17, then the device-owned fields of R18. -/
structure PartRecord where
  enabled : Bool
  origin : Point
  startHole : Point
  passCount : Nat
  contour : PerPass
  initial : PerPass
  retain : Bool
  slotAllowed : Bool
  threadLimit : Nat
  breakLimit : Nat
  state : PartState
  cause : Option Cause
  stage : Stage
  pass : Option Pass
  progress : Option PathPoint
  tab : Option TabPoint
  breakPoint : Option PathPoint
  breakCount : Nat
  erosion : Nat
  deriving DecidableEq, Repr

/-- One entry of the Condition Table (R20). -/
structure Condition where
  loaded : Bool
  vref : Nat
  fmax : Nat
  lreq : Nat
  freq : Nat
  rstep : Nat
  lr : Nat
  offBase : Nat
  deriving DecidableEq, Repr

/-- The setup record (R172). -/
structure Setup where
  present : Bool
  xLow : Int
  xHigh : Int
  yLow : Int
  yHigh : Int
  rapid : Nat
  dry : Nat
  dropTime : Nat
  deriving DecidableEq, Repr

/-- The strap values (R178). -/
structure Straps where
  station : StationNo
  power : Fin 16
  flush : Fin 16
  deriving DecidableEq, Repr

/-- Station states (R40). -/
inductive Station where
  | listen | idle | run | held | halted | powerDown
  deriving DecidableEq, Repr

/-- Activities (R43). -/
inductive Activity where
  | moving | threading | cutting | separating | recovering | wireCutting | dropWatch
  deriving DecidableEq, Repr

/-- Owed steps of the condition latch (R47). -/
inductive OwedStep where
  | recovery | routeStep | wireCut | tensionCut | select
  deriving DecidableEq, Repr

/-- Recovery routes (R137). -/
inductive Route where
  | off | slot | hole | tab
  deriving DecidableEq, Repr

/-- Steps of a recovery route (R137). -/
inductive RouteStep where
  | cut | move | thread | seek | replay
  deriving DecidableEq, Repr

/-- The power-down mark (R60, R61). -/
structure Mark where
  part : Option PartNo
  station : Station
  activity : Option Activity
  deriving DecidableEq, Repr

/-- The rethread point: a point of the path and the machine position of the wire (R140). -/
structure Rethread where
  point : PathPoint
  at_ : Point
  deriving DecidableEq, Repr

/-- The Station Sequencer (R40), its two timers (R41, R30) and its recovery record (R137). A timer is
absent while stopped and else holds the ms left. -/
structure Sequencer where
  station : Station
  activity : Option Activity
  current : Option PartNo
  halt : Option HaltCode
  skipOwed : Bool
  owed : Option OwedStep
  skipCount : Nat
  dropCount : Nat
  mark : Option Mark
  listen : Option Nat
  window : Option Nat
  route : Route
  step : Option RouteStep
  rethread : Option Rethread
  passStart : Option Point
  deriving DecidableEq, Repr

/-- Fetcher states (R64). -/
inductive FetchState where
  | idle | running | full | done | faulted
  deriving DecidableEq, Repr

/-- One frame of the call stack (R63). -/
structure CallFrame where
  ret : PathIndex
  target : PathIndex
  repeats : Nat
  index : Nat
  step : Point
  base : Point
  deriving DecidableEq, Repr

/-- The Path Fetcher (R63). -/
structure Fetcher where
  state : FetchState
  part : Option PartNo
  pass : Option Pass
  position : Option PathIndex
  stack : List CallFrame
  offset : Point
  endPoint : Option Point
  cond : Option CondNo
  target : Option PathPoint
  ordinal : Nat
  deriving DecidableEq, Repr

/-- Kinds of a segment entry; a FAULT entry carries its cause (R75). -/
inductive EntryKind where
  | line | arcCw | arcCcw | stopTab | stopEnd
  | fault (cause : FetchFault)
  deriving DecidableEq, Repr

/-- One entry of the Segment Queue or the Retreat History (R75, R109). -/
structure Entry where
  kind : EntryKind
  start : Point
  stop : Point
  centre : Option Point
  length : Nat
  cond : CondNo
  part : PartNo
  pass : Pass
  ordinal : Nat
  dry : Nat
  deriving DecidableEq, Repr

/-- A closed capture; n and sh are computed from its counts (R83). -/
structure Capture where
  normal : Nat
  arc : Nat
  short : Nat
  satNormal : Bool
  satArc : Bool
  satShort : Bool
  mean : Nat
  openReading : Nat
  mark : Bool
  deriving DecidableEq, Repr

/-- The Gap Monitor (R80). -/
structure GapMonitor where
  normal : Nat
  arc : Nat
  short : Nat
  satNormal : Bool
  satArc : Bool
  satShort : Bool
  burnSum : Nat
  burnTally : Nat
  openSum : Nat
  openTally : Nat
  mark : Bool
  last : Capture
  deriving DecidableEq, Repr

/-- Generator Control (R85). -/
structure Generator where
  level : Nat
  target : Nat
  cond : Option CondNo
  dry : Option Bool
  stretch : Nat
  arcFree : Nat
  on : Bool
  draw : Nat
  flush : Nat
  offTime : Nat
  total : Nat
  deriving DecidableEq, Repr

/-- Tasks of the Cut Executor (R95). -/
inductive Task where
  | off | path | move
  deriving DecidableEq, Repr

/-- A move in hand (R95, R108). -/
structure Move where
  start : Point
  target : Point
  length : Nat
  progress : Nat
  deriving DecidableEq, Repr

/-- The Cut Executor (R95) with its seek point (R141); the position is the setpoint output. -/
structure Executor where
  task : Task
  position : Point
  cursor : Nat
  progress : Nat
  front : Option PathPoint
  rd : Nat
  stuck : Nat
  move : Option Move
  seek : Option PathPoint
  deriving DecidableEq, Repr

/-- Requests a Threader holds (R119). -/
inductive WireRequest where
  | off | thread | cut
  deriving DecidableEq, Repr

/-- Threader phases (R119). -/
inductive Phase where
  | idle | cutTip | annealWait | anneal | jetClaim | feed | tension | done
  deriving DecidableEq, Repr

/-- Threading modes (R121). -/
inductive Mode where
  | hole | slot
  deriving DecidableEq, Repr

/-- Wire states (R119). -/
inductive Wire where
  | unthreaded | threaded
  deriving DecidableEq, Repr

/-- Threader Control (R119) and its five output lines (R120). -/
structure Threader where
  request : WireRequest
  phase : Phase
  mode : Option Mode
  attempts : Nat
  limit : Option Nat
  held : Bool
  tensionCheck : Bool
  timer : Option Nat
  sagBlank : Option Nat
  wire : Wire
  cutter : Bool
  anneal : Bool
  valve : Bool
  feed : Bool
  tension : Bool
  deriving DecidableEq, Repr

/-- One input filter (R134, R135). -/
structure Filter where
  level : Level
  last : Option Level
  expected : Level
  deriving DecidableEq, Repr

/-- The filtered inputs (section 7.9). -/
inductive Input where
  | contact | tensionOk | cutterDone | supplySag | drop | wireLow | limit
  deriving DecidableEq, Repr

/-- The seven filters (R134). -/
structure Filters where
  contact : Filter
  tensionOk : Filter
  cutterDone : Filter
  supplySag : Filter
  drop : Filter
  wireLow : Filter
  limit : Filter
  deriving DecidableEq, Repr

/-- Announced phases (R42, section 11.6). -/
inductive Announced where
  | listen | idle | moving | threading | cutting | separating | recovering | held | halted
  deriving DecidableEq, Repr

/-- Jet states a notice carries (R155). -/
inductive JetNotice where
  | off | claim | hold
  deriving DecidableEq, Repr

/-- Own jet states (R162). -/
inductive Jet where
  | off | pending | waiting | holding
  deriving DecidableEq, Repr

/-- A present entry of the peer table (R158). -/
structure Peer where
  age : Nat
  phase : Announced
  draw : Nat
  flush : Nat
  heavy : Bool
  jet : JetNotice
  stamp : Nat
  deriving DecidableEq, Repr

/-- Line modes (R154). -/
inductive LineMode where
  | normal | degraded
  deriving DecidableEq, Repr

/-- The Coordination Unit (R157, R158, R161, R162). -/
structure Coordination where
  peers : Vector (Option Peer) 8
  drawn : Nat
  refresh : Option Nat
  mode : LineMode
  jet : Jet
  stamp : Nat
  settle : Option Nat
  completed : Bool
  cmax : Nat
  cmaxSeen : Bool
  ap : Nat
  af : Nat
  deriving DecidableEq, Repr

/-- The fields of a notice (R155, R182). -/
structure Notice where
  station : Nat
  phase : Announced
  draw : Nat
  flush : Nat
  heavy : Bool
  jet : JetNotice
  stamp : Nat
  deriving DecidableEq, Repr

/-- Transmit states (R150). -/
inductive Transmit where
  | quiet | ready | sending | backoff | silent
  deriving DecidableEq, Repr

/-- The Cell Line Port (R150). -/
structure CellPort where
  tx : Transmit
  due : Bool
  frame : Option Notice
  idle : Nat
  spacing : Option Nat
  line : Option Nat
  collisions : Nat
  deriving DecidableEq, Repr

/-- A request of the buffer as it arrived: code and payload (R169). -/
structure Request where
  code : Byte
  payload : List Byte
  deriving DecidableEq, Repr

/-- Status codes (R171, R183). -/
inductive Status where
  | ok | refusedState | refusedLocked | refusedRange | invalid | halted | unknown
  deriving DecidableEq, Repr

/-- The response in transmission (R171). -/
structure Response where
  code : Byte
  status : Status
  payload : List Byte
  deriving DecidableEq, Repr

/-- The Job Link Port (R169, R170). -/
structure JobLink where
  hunting : Bool
  buffer : List Request
  overflow : Bool
  response : Option Response
  deriving DecidableEq, Repr

/-- Report kinds (R175). -/
inductive ReportKind where
  | part | halt | jobEnd | threadFail | break_ | jetConflict | lineFault | lineRestored
  | peerLost | peerFound | dropUnattributed | powerDown
  deriving DecidableEq, Repr

/-- One report (R175). -/
structure Report where
  kind : ReportKind
  part : Option PartNo
  cause : Option Cause
  detail : Nat
  time : Nat
  deriving DecidableEq, Repr

/-- The Report Queue (R175). -/
structure ReportQueue where
  items : List Report
  lost : Nat
  deriving DecidableEq, Repr

/-- The state of the part and its queue of waiting commands. -/
structure State where
  straps : Straps
  store : List Host.Cell
  conds : Vector Condition 16
  nest : Vector PartRecord 32
  setup : Setup
  locks : List Nat
  walking : Bool
  seq : Sequencer
  fetch : Fetcher
  queue : List Entry
  history : List Entry
  gap : GapMonitor
  gen : Generator
  exe : Executor
  thr : Threader
  filters : Filters
  coord : Coordination
  port : CellPort
  link : JobLink
  reports : ReportQueue
  now : Nat
  raised : List (Input × Level)
  pending : List Instr
  deriving DecidableEq, Repr

/-- Why a command stops the model. -/
inductive Fault where
  /-- Raised by EMISSION alone: the Path Fetcher's reading came back to a place it had already been in
  the same emission, so it reads for ever and places no entry (R67 states no end; log 17). Safe. -/
  | emissionNeverEnds
  deriving DecidableEq, Repr

/-- Why a command has no meaning in the model. -/
inductive Refusal where
  /-- Raised by an arm of `exec` that has no meaning yet. Safe. -/
  | notModelled (mnemonic : String)
  deriving DecidableEq, Repr

/-- A part record as CLEAR STORE rewrites it (R21), and as a part never written holds it (log 2). -/
def PartRecord.cleared : PartRecord where
  enabled := false
  origin := ⟨0, 0⟩
  startHole := ⟨0, 0⟩
  passCount := 1
  contour := ⟨some 0, none, none⟩
  initial := ⟨some 0, none, none⟩
  retain := false
  slotAllowed := false
  threadLimit := 1
  breakLimit := 1
  state := .uncut
  cause := none
  stage := .off
  pass := none
  progress := none
  tab := none
  breakPoint := none
  breakCount := 0
  erosion := 0

/-- A condition entry with its fields at the lowest value of each range and not loaded (R21). -/
def Condition.cleared : Condition :=
  { loaded := false, vref := 20, fmax := 1, lreq := 1, freq := 1, rstep := 1, lr := 1, offBase := 2 }

/-- A part that has never taken a SETUP: the present flag is clear (R172). -/
def Setup.blank : Setup :=
  { present := false, xLow := 0, xHigh := 0, yLow := 0, yHigh := 0, rapid := 0, dry := 0, dropTime := 0 }

/-- The Sequencer after power-on (R40, R41, R137), less the power-down mark, which is retained. -/
def Sequencer.poweredOn : Sequencer where
  station := .listen
  activity := none
  current := none
  halt := none
  skipOwed := false
  owed := none
  skipCount := 0
  dropCount := 0
  mark := none
  listen := some Config.listenTime
  window := none
  route := .off
  step := none
  rethread := none
  passStart := none

/-- The Fetcher after power-on, RESET STATION and every flush (R63). -/
def Fetcher.flushed : Fetcher where
  state := .idle
  part := none
  pass := none
  position := none
  stack := []
  offset := ⟨0, 0⟩
  endPoint := none
  cond := none
  target := none
  ordinal := 0

/-- The last capture after power-on (R80). -/
def Capture.blank : Capture :=
  { normal := 0, arc := 0, short := 0, satNormal := false, satArc := false, satShort := false,
    mean := 0, openReading := 0, mark := false }

/-- The Gap Monitor after power-on (R80). -/
def GapMonitor.poweredOn : GapMonitor where
  normal := 0
  arc := 0
  short := 0
  satNormal := false
  satArc := false
  satShort := false
  burnSum := 0
  burnTally := 0
  openSum := 0
  openTally := 0
  mark := false
  last := Capture.blank

/-- Generator Control after power-on (R85). -/
def Generator.poweredOn : Generator where
  level := 0
  target := 0
  cond := none
  dry := none
  stretch := 0
  arcFree := 0
  on := false
  draw := 0
  flush := 0
  offTime := 200
  total := 0

/-- The Executor after power-on (R95), at the retained position. -/
def Executor.poweredOn (position : Point) : Executor where
  task := .off
  position := position
  cursor := 0
  progress := 0
  front := none
  rd := 0
  stuck := 0
  move := none
  seek := none

/-- Threader Control after power-on and RESET STATION (R119, R120). -/
def Threader.poweredOn : Threader where
  request := .off
  phase := .idle
  mode := none
  attempts := 0
  limit := none
  held := false
  tensionCheck := false
  timer := none
  sagBlank := none
  wire := .unthreaded
  cutter := false
  anneal := false
  valve := false
  feed := false
  tension := false

/-- A filter after power-on (R134); a followed input expects its filtered level (R135), and DROP expects
clear (R31). -/
def Filter.poweredOn : Filter := { level := .clear, last := none, expected := .clear }

/-- The seven filters after power-on. -/
def Filters.poweredOn : Filters where
  contact := Filter.poweredOn
  tensionOk := Filter.poweredOn
  cutterDone := Filter.poweredOn
  supplySag := Filter.poweredOn
  drop := Filter.poweredOn
  wireLow := Filter.poweredOn
  limit := Filter.poweredOn

/-- The Coordination Unit after power-on (R157, R158, R161, R162); every budget is 8 or more and every
strap code's allowance at an empty table is min(15, B), filled in by POWER_ON (here: B = 128). -/
def Coordination.poweredOn : Coordination where
  peers := Vector.replicate 8 none
  drawn := 0
  refresh := none
  mode := .normal
  jet := .off
  stamp := 0
  settle := none
  completed := false
  cmax := 0
  cmaxSeen := false
  ap := 15
  af := 15

/-- The Cell Line Port after power-on (R150). -/
def CellPort.poweredOn : CellPort where
  tx := .ready
  due := true
  frame := none
  idle := 0
  spacing := none
  line := some Config.lineTime
  collisions := 0

/-- The Job Link Port after power-on (R169). -/
def JobLink.poweredOn : JobLink :=
  { hunting := true, buffer := [], overflow := false, response := none }

/-- The part after power-on with the straps given and retained memory that was never written. -/
def State.poweredOn (straps : Straps) : State where
  straps := straps
  store := []
  conds := Vector.replicate 16 Condition.cleared
  nest := Vector.replicate 32 PartRecord.cleared
  setup := Setup.blank
  locks := []
  walking := false
  seq := Sequencer.poweredOn
  fetch := Fetcher.flushed
  queue := []
  history := []
  gap := GapMonitor.poweredOn
  gen := Generator.poweredOn
  exe := Executor.poweredOn ⟨0, 0⟩
  thr := Threader.poweredOn
  filters := Filters.poweredOn
  coord := Coordination.poweredOn
  port := CellPort.poweredOn
  link := JobLink.poweredOn
  reports := { items := [], lost := 0 }
  now := 0
  raised := []
  pending := []

/-- The part right after reset: POWER_ON of a part never written, straps all 0 (log 1, 2). -/
def State.reset : State := State.poweredOn ⟨0, 0, 0⟩

/-- The record of a part. -/
def State.part (s : State) (p : PartNo) : PartRecord := s.nest[p]

/-- The entry of a condition. -/
def State.condition (s : State) (c : CondNo) : Condition := s.conds[c]

/-- The entry of a station in the peer table. -/
def State.peer (s : State) (n : StationNo) : Option Peer := s.coord.peers[n]

/-! ### One update per block -/

def State.modNest (f : Vector PartRecord 32 → Vector PartRecord 32) (s : State) : State := { s with nest := f s.nest }
def State.modSeq (f : Sequencer → Sequencer) (s : State) : State := { s with seq := f s.seq }
def State.modFetch (f : Fetcher → Fetcher) (s : State) : State := { s with fetch := f s.fetch }
def State.modGap (f : GapMonitor → GapMonitor) (s : State) : State := { s with gap := f s.gap }
def State.modGen (f : Generator → Generator) (s : State) : State := { s with gen := f s.gen }
def State.modExe (f : Executor → Executor) (s : State) : State := { s with exe := f s.exe }
def State.modThr (f : Threader → Threader) (s : State) : State := { s with thr := f s.thr }
def State.modFilters (f : Filters → Filters) (s : State) : State := { s with filters := f s.filters }
def State.modCoord (f : Coordination → Coordination) (s : State) : State := { s with coord := f s.coord }
def State.modPort (f : CellPort → CellPort) (s : State) : State := { s with port := f s.port }
def State.modLink (f : JobLink → JobLink) (s : State) : State := { s with link := f s.link }
def State.modReports (f : ReportQueue → ReportQueue) (s : State) : State := { s with reports := f s.reports }
def State.setQueue (q : List Entry) (s : State) : State := { s with queue := q }
def State.setHistory (h : List Entry) (s : State) : State := { s with history := h }
def State.setStore (m : List Host.Cell) (s : State) : State := { s with store := m }
def State.setConds (c : Vector Condition 16) (s : State) : State := { s with conds := c }
def State.setSetup (c : Setup) (s : State) : State := { s with setup := c }
def State.setLocks (l : List Nat) (s : State) : State := { s with locks := l }
def State.setWalking (b : Bool) (s : State) : State := { s with walking := b }
def State.setRaised (l : List (Input × Level)) (s : State) : State := { s with raised := l }
def State.setNow (n : Nat) (s : State) : State := { s with now := n }
def State.setPending (l : List Instr) (s : State) : State := { s with pending := l }

end Sys2Proof.Machine
end

