-- ==== Sys2Proof/Machine/Arith.lean ====
section
/-! DEFINITION. The integer arithmetic of the spec: rounding (00_scope.md, R7), exact square roots, and the
fixed-point trigonometry that the arcs of R8 and R107 need (log 15). -/

namespace Sys2Proof.Machine

/-- `num / den` rounded to the nearest integer, ties away from zero (00_scope.md, Rounding). -/
def roundDiv (num : Int) (den : Nat) : Int :=
  let q : Int := ((2 * num.natAbs + den) / (2 * den) : Nat)
  if num < 0 then -q else q

/-- The integer square root by binary digits: `bits` digits below those already in `r`. -/
def sqrtDigits (n : Nat) : Nat → Nat → Nat
  | 0, r => r
  | b + 1, r =>
    let c := r + 2 ^ b
    if c * c ≤ n then sqrtDigits n b c else sqrtDigits n b r

/-- The floor of the square root. -/
def isqrt (n : Nat) : Nat := sqrtDigits n (Nat.log2 n / 2 + 1) 0

/-- The square root rounded to the nearest integer; a square root of an integer is never a tie. -/
def roundSqrt (n : Nat) : Nat :=
  let r := isqrt n
  if r * r + r < n then r + 1 else r

/-- The square of the distance between two points. -/
def distSq (a b : Point) : Nat :=
  ((b.x - a.x) * (b.x - a.x) + (b.y - a.y) * (b.y - a.y)).toNat

/-- The length of the straight line between two points (R7, R108). -/
def lineLength (a b : Point) : Nat := roundSqrt (distSq a b)

/-! ### Fixed point: an integer `v` stands for `v / 2^512` (log 15) -/

/-- The fraction bits. -/
def fixBits : Nat := 512

/-- One. -/
def fixOne : Nat := 2 ^ fixBits

/-- The floor of pi times 2^512. -/
def fixPi : Nat :=
  42121870893450636219446821484559388105255997313489254605594685088103805782276098919793885372247726346443771296916333485327292916625599161542353774203832599

/-- A full turn. -/
def fixTurn : Nat := 2 * fixPi

/-- The alternating series t - t^3/3 + t^5/5 - ..., term by term: `power` is the next odd power of t. -/
def atanTerms (t2 : Nat) : Nat → Nat → Nat → Int
  | 0, _, _ => 0
  | fuel + 1, power, k =>
    (power / k : Nat) - atanTerms t2 fuel (power * t2 / fixOne) (k + 2)

/-- The arc tangent of `num / den`, for `2 * num ≤ den`. -/
def atanSmall (num den : Nat) : Int :=
  let t := num * fixOne / den
  atanTerms (t * t / fixOne) 270 t 1

/-- The arc tangent of `num / den`, for `num ≤ den` and `0 < den`. -/
def atanUnit (num den : Nat) : Int :=
  if 2 * num ≤ den then atanSmall num den
  else (fixPi / 4 : Nat) - atanSmall (den - num) (den + num)

/-- The angle of (x, y), both not negative and not both 0, from the X axis. -/
def quadrantAngle (x y : Nat) : Int :=
  if y ≤ x then atanUnit y x else (fixPi / 2 : Nat) - atanUnit x y

/-- The counter-clockwise angle of (x, y) from the X axis, in 0 to 2 pi, 2 pi excluded. -/
def fullAngle (x y : Int) : Int :=
  if 0 ≤ y then
    if 0 ≤ x then quadrantAngle x.natAbs y.natAbs
    else (fixPi : Int) - quadrantAngle x.natAbs y.natAbs
  else
    if x < 0 then (fixPi : Int) + quadrantAngle x.natAbs y.natAbs
    else (fixTurn : Int) - quadrantAngle x.natAbs y.natAbs

/-- The terms of a sine or cosine series: `term`, then minus `term * a2 / (k (k + 1))`, and so on. -/
def circularTerms (a2 : Nat) : Nat → Nat → Nat → Int
  | 0, _, _ => 0
  | fuel + 1, term, k =>
    (term : Int) - circularTerms a2 fuel (term * a2 / fixOne / (k * (k + 1))) (k + 2)

/-- The cosine of an angle in 0 to pi/2. -/
def cosQuarter (a : Nat) : Int := circularTerms (a * a / fixOne) 64 fixOne 1

/-- The sine of an angle in 0 to pi/2. -/
def sinQuarter (a : Nat) : Int := circularTerms (a * a / fixOne) 64 a 2

/-- Cosine and sine of an angle that is not negative. -/
def cosSin (a : Nat) : Int × Int :=
  let quarter := fixPi / 2
  let q := a / quarter % 4
  let c := cosQuarter (a % quarter)
  let s := sinQuarter (a % quarter)
  if q = 0 then (c, s) else if q = 1 then (-s, c) else if q = 2 then (-c, -s) else (s, -c)

/-- A fixed-point value rounded to the nearest integer, for a value that is never a tie: the length of an arc is
a real algebraic number times an angle that is transcendental or 0 (log 15). -/
def nearestFix (v : Nat) : Nat := (v + fixOne / 2) / fixOne

/-- A fixed-point value rounded to the nearest integer, ties away from zero. A value within 2^-412 of a tie is
read as the tie itself (log 15). -/
def roundFix (v : Int) : Int :=
  let whole : Nat := (v.natAbs + fixOne / 2 + 2 ^ 100) / fixOne
  if v < 0 then -(whole : Int) else whole

end Sys2Proof.Machine
end

