-- ==== Sys2Proof/Machine/Geometry.lean ====
section
/-! DEFINITION. Segment geometry (R7, R8), the points of a segment (R106, R107), the order of path points
(R18) and the passes of a part. -/

namespace Sys2Proof.Machine

/-- Passes are coded 1, 2, 3 and S as 4 (section 11.6); their order is the order of the codes (R18). -/
def Pass.code : Pass → Nat
  | .first => 1
  | .second => 2
  | .third => 3
  | .separation => 4

/-- The pass after one of passes 1 and 2. -/
def Pass.next : Pass → Option Pass
  | .first => some .second
  | .second => some .third
  | .third => none
  | .separation => none

/-- The value a field holds for one of passes 1-3 (R17). -/
def PerPass.get (f : PerPass) : Pass → Option Nat
  | .first => f.first
  | .second => f.second
  | .third => f.third
  | .separation => none

/-- Pass order: pass first, then ordinal, then progress (R18). -/
def PathPoint.before (a b : PathPoint) : Bool :=
  a.pass.code < b.pass.code ||
    (a.pass.code == b.pass.code &&
      (a.ordinal < b.ordinal || (a.ordinal == b.ordinal && a.progress < b.progress)))

/-- LINE, ARC_CW and ARC_CCW entries; the others are STOP and FAULT entries (R75). -/
def Entry.isPath (e : Entry) : Bool :=
  match e.kind with
  | .line | .arcCw | .arcCcw => true
  | .stopTab | .stopEnd | .fault _ => false

/-- The difference `a - b`. -/
def Point.sub (a b : Point) : Point := ⟨a.x - b.x, a.y - b.y⟩

/-- The sum of two points. -/
def Point.add (a b : Point) : Point := ⟨a.x + b.x, a.y + b.y⟩

/-- The coordinate range (R5). -/
def inRange (v : Int) : Bool := -2147483648 ≤ v && v ≤ 2147483647

/-- Both axes lie in the coordinate range (R5). -/
def Point.inRange (p : Point) : Bool := Machine.inRange p.x && Machine.inRange p.y

/-- The test for a point inside the travel window, bounds included (R71). -/
def Setup.inWindow (w : Setup) (p : Point) : Bool :=
  w.xLow ≤ p.x && p.x ≤ w.xHigh && w.yLow ≤ p.y && p.y ≤ w.yHigh

/-- The square root of an integer in fixed point. -/
def fixSqrt (n : Nat) : Nat := isqrt (n * 2 ^ (2 * fixBits))

/-- The sweep of an arc in fixed point (R8). -/
def arcSweep (cw : Bool) (start stop centre : Point) : Nat :=
  let a := start.sub centre
  let b := stop.sub centre
  if start = stop then fixTurn
  else if stop = centre then Config.centreSweep (if cw then 1 else 0) a.x a.y % fixTurn
  else
    let ccw := (fullAngle (a.x * b.x + a.y * b.y) (a.x * b.y - a.y * b.x)).toNat
    if cw then (if ccw = 0 then 0 else fixTurn - ccw) else ccw

/-- The length of an arc: radius times sweep, rounded (R8; log 15). -/
def arcLength (cw : Bool) (start stop centre : Point) : Nat :=
  nearestFix (fixSqrt (distSq start centre) * arcSweep cw start stop centre / fixOne)

/-- The radius tests of R8, in exact integers: r < 1000, or r and r_E differ by more than 1000. The second
is (r_E - r)^2 > 10^6, that is r^2 + r_E^2 - 10^6 > 2 r r_E. -/
def arcRadiiFail (start stop centre : Point) : Bool :=
  let r2 := distSq start centre
  let e2 := distSq stop centre
  r2 < 1000000 || (1000000 < r2 + e2 && 4 * r2 * e2 < (r2 + e2 - 1000000) * (r2 + e2 - 1000000))

/-- The ARC_GEOMETRY fault (R8). -/
def arcFails (cw : Bool) (start stop centre : Point) : Bool :=
  arcRadiiFail start stop centre || arcLength cw start stop centre == 0

/-- The point at progress `s` of the straight line of length `len` (R106): each axis rounded whole (log 14). -/
def linePoint (start stop : Point) (len s : Nat) : Point :=
  if len = 0 then stop
  else ⟨roundDiv (start.x * len + (stop.x - start.x) * s) len,
        roundDiv (start.y * len + (stop.y - start.y) * s) len⟩

/-- The point at progress `s` of an arc (R107; log 15). DESIGN CHOICE (log 38): R71 tests the ends and the centre
alone, and the spec states no setpoint where a point between them lies outside the signed 32-bit range; the point
is kept as it is, an integer without bounds. -/
def arcPoint (cw : Bool) (start stop centre : Point) (len s : Nat) : Point :=
  if s = 0 then start
  else if s = len then stop
  else
    let d := start.sub centre
    let turn := cosSin (arcSweep cw start stop centre * s / len)
    let cosA := turn.1
    let sinA := if cw then -turn.2 else turn.2
    let ratio : Int := (fixSqrt (distSq stop centre) * fixOne / fixSqrt (distSq start centre) : Nat)
    let scale : Int := fixOne + (ratio - fixOne) * s / len
    ⟨roundFix (centre.x * fixOne + scale * (d.x * cosA - d.y * sinA) / fixOne),
     roundFix (centre.y * fixOne + scale * (d.x * sinA + d.y * cosA) / fixOne)⟩

/-- The setpoint of a point of an entry (R106, R107). A STOP or FAULT entry is one point (R72). -/
def Entry.pointAt (e : Entry) (s : Nat) : Point :=
  match e.kind, e.centre with
  | .line, _ => linePoint e.start e.stop e.length s
  | .arcCw, some c => arcPoint true e.start e.stop c e.length s
  | .arcCcw, some c => arcPoint false e.start e.stop c e.length s
  | _, _ => e.stop

end Sys2Proof.Machine
end

