-- ==== Sys2Proof/Machine/Operands.lean ====
section
/-! DEFINITION. The operand forms: bytes and fields (R181), checks (R182, R183), path records (R2, section
11.5), job link frames and their payloads (R169, R183), notices (R182), and the codes of section 11.6. -/

namespace Sys2Proof.Machine

/-! ### Fields of bytes, least significant byte first (R181) -/

/-- The unsigned value of a field. -/
def leNat : List Byte → Nat
  | [] => 0
  | b :: bs => b.toNat + 256 * leNat bs

/-- The signed value of a 32-bit field, in two's complement. -/
def leInt (bs : List Byte) : Int := (BitVec.ofNat 32 (leNat bs)).toInt

/-- The `n` bytes at offset `o`. -/
def field (bs : List Byte) (o n : Nat) : List Byte := (bs.drop o).take n

/-- An unsigned value as `n` bytes. -/
def toBytes : Nat → Nat → List Byte
  | 0, _ => []
  | n + 1, v => BitVec.ofNat 8 v :: toBytes n (v / 256)

/-- A signed value as a 32-bit word in two's complement (R179, R181); of a value outside the signed 32-bit range,
its low 32 bits (DESIGN CHOICE, log 38). -/
def signedWord (v : Int) : BitVec 32 := BitVec.ofInt 32 v

/-- A signed value as 4 bytes (R181). -/
def intBytes (v : Int) : List Byte := toBytes 4 (signedWord v).toNat

/-- A flag as one byte: set 1, clear 0. R183 states this for the overflow flag; for the others it is a DESIGN
CHOICE (log 41). -/
def flagByte (b : Bool) : Byte := if b then 1 else 0

/-! ### Check bytes -/

/-- One bit of the CRC-8 under x^8 + x^2 + x + 1, most significant bit first (R182). -/
def crc8Bits : Nat → Byte → Byte
  | 0, c => c
  | n + 1, c => crc8Bits n (if c.msb then (c <<< 1) ^^^ 0x07 else c <<< 1)

/-- The CRC-8 of R182: initial value 0, no reflection, no final inversion. -/
def crc8 (bs : List Byte) : Byte := bs.foldl (fun c b => crc8Bits 8 (c ^^^ b)) 0

/-- One bit of the CRC-16 under x^16 + x^12 + x^5 + 1 (R183). -/
def crc16Bits : Nat → BitVec 16 → BitVec 16
  | 0, c => c
  | n + 1, c => crc16Bits n (if c.msb then (c <<< 1) ^^^ 0x1021 else c <<< 1)

/-- The CRC-16 of R183: initial value 0xFFFF, no reflection, no final inversion. -/
def crc16 (bs : List Byte) : BitVec 16 :=
  bs.foldl (fun c b => crc16Bits 8 (c ^^^ ((b.setWidth 16).shiftLeft 8))) 0xFFFF

/-! ### Job link frames (R169, R183) -/

/-- The start byte. -/
def startByte : Byte := 0xA5

/-- The bytes of a frame that carries `body` (code and payload, or code, status and payload). -/
def frameBytes (body : List Byte) : List Byte :=
  let checked := toBytes 2 body.length ++ body
  startByte :: checked ++ toBytes 2 (crc16 checked).toNat

/-- The body of a good frame: the bytes before the start byte are passed over (the Port hunts), the length
lies in 1-400, exactly that many bytes and the two check bytes follow, and the check matches (R169). -/
def frameBody (bytes : List Byte) : Option (List Byte) :=
  match bytes.dropWhile (· != startByte) with
  | [] => none
  | _ :: rest =>
    let len := leNat (rest.take 2)
    let body := field rest 2 len
    if 1 ≤ len ∧ len ≤ 400 ∧ rest.length = len + 4 ∧
        leNat (rest.drop (len + 2)) = (crc16 (rest.take (len + 2))).toNat then some body
    else none

/-- The request a good frame carries. -/
def requestOf (bytes : List Byte) : Option Request :=
  match frameBody bytes with
  | some (code :: payload) => some ⟨code, payload⟩
  | _ => none

/-- The bytes of a request's frame, as a host sends it. -/
def Request.frame (r : Request) : List Byte := frameBytes (r.code :: r.payload)

/-! ### Path records (R2, section 11.5) -/

/-- A path record as its 20 bytes read. -/
inductive PathRecord where
  | empty
  | line (x y : Int)
  | arc (cw : Bool) (x y cx cy : Int)
  | call (target reps : Nat) (dx dy : Int)
  | cond (index : Nat)
  | tab
  | fin
  | unassigned
  deriving DecidableEq, Repr

/-- The record that 20 bytes hold; bytes the layout does not use are not read (section 11.5). -/
def PathRecord.read (bs : List Byte) : PathRecord :=
  let i := fun o => leInt (field bs o 4)
  match leNat (bs.take 1) with
  | 0 => .empty
  | 1 => .line (i 4) (i 8)
  | 2 => .arc true (i 4) (i 8) (i 12) (i 16)
  | 3 => .arc false (i 4) (i 8) (i 12) (i 16)
  | 4 => .call (leNat (field bs 4 2)) (leNat (field bs 6 1)) (i 8) (i 12)
  | 5 => .cond (leNat (field bs 4 1))
  | 6 => .tab
  | 7 => .fin
  | _ => .unassigned

/-! ### Requests and their payloads (R171, R183) -/

/-- A request as its code and payload read. -/
inductive Parsed where
  | setup (r : Setup)
  | loadCondition (index : Nat) (c : Condition)
  | loadPath (start : Nat) (records : List (List Byte))
  | loadPart (number : Nat) (r : PartRecord)
  | clearStore
  | startJob
  | hold
  | resume
  | abort
  | skipPart (number : Nat)
  | readStatus
  | readPart (number : Nat)
  | readPeers
  | readReports
  | resetStation
  | unknown
  deriving DecidableEq, Repr

/-- The setup record of a 24-byte payload. -/
def Setup.read (bs : List Byte) : Setup where
  present := true
  xLow := leInt (field bs 0 4)
  xHigh := leInt (field bs 4 4)
  yLow := leInt (field bs 8 4)
  yHigh := leInt (field bs 12 4)
  rapid := leNat (field bs 16 4)
  dry := leNat (field bs 20 2)
  dropTime := leNat (field bs 22 2)

/-- The condition entry of 11 bytes; the loaded flag it carries is ignored and set (R20, section 11.5). -/
def Condition.read (bs : List Byte) : Condition where
  loaded := true
  vref := leNat (field bs 0 1)
  fmax := leNat (field bs 1 2)
  lreq := leNat (field bs 3 1)
  freq := leNat (field bs 4 1)
  rstep := leNat (field bs 5 2)
  lr := leNat (field bs 7 2)
  offBase := leNat (field bs 9 1)

/-- A per-pass field of three values, absent beyond the pass count (R19). -/
def PerPass.upTo (count a b c : Nat) : PerPass where
  first := if 1 ≤ count then some a else none
  second := if 2 ≤ count then some b else none
  third := if 3 ≤ count then some c else none

/-- The part record LOAD PART writes: the host-set block of 29 bytes, and the device-owned fields as R19
gives them. -/
def PartRecord.read (bs : List Byte) : PartRecord :=
  let flags := (BitVec.ofNat 8 (leNat (bs.take 1)))
  let count := leNat (field bs 17 1)
  { PartRecord.cleared with
    enabled := flags.getLsbD 0
    retain := flags.getLsbD 1
    slotAllowed := flags.getLsbD 2
    origin := ⟨leInt (field bs 1 4), leInt (field bs 5 4)⟩
    startHole := ⟨leInt (field bs 9 4), leInt (field bs 13 4)⟩
    passCount := count
    contour := PerPass.upTo count (leNat (field bs 18 2)) (leNat (field bs 20 2)) (leNat (field bs 22 2))
    initial := PerPass.upTo count (leNat (field bs 24 1)) (leNat (field bs 25 1)) (leNat (field bs 26 1))
    threadLimit := leNat (field bs 27 1)
    breakLimit := leNat (field bs 28 1) }

/-- The whole 20-byte records of a byte list. -/
def records : Nat → List Byte → List (List Byte)
  | 0, _ => []
  | n + 1, bs => bs.take Config.recordBytes :: records n (bs.drop Config.recordBytes)

/-- A request read by its code, and UNKNOWN where the code is not assigned or the payload's length does not
match its form (R171, R183). -/
def Request.parse (r : Request) : Parsed :=
  let p := r.payload
  let n := p.length
  let bare := fun (c : Parsed) => if n = 0 then c else Parsed.unknown
  match r.code.toNat with
  | 0x01 => if n = 24 then .setup (Setup.read p) else .unknown
  | 0x02 => if n = 12 then .loadCondition (leNat (p.take 1)) (Condition.read (p.drop 1)) else .unknown
  | 0x03 =>
    if 2 ≤ n ∧ (n - 2) % Config.recordBytes = 0 then
      .loadPath (leNat (p.take 2)) (records ((n - 2) / Config.recordBytes) (p.drop 2))
    else .unknown
  | 0x04 => if n = 30 then .loadPart (leNat (p.take 1)) (PartRecord.read (p.drop 1)) else .unknown
  | 0x05 => bare .clearStore
  | 0x06 => bare .startJob
  | 0x07 => bare .hold
  | 0x08 => bare .resume
  | 0x09 => bare .abort
  | 0x0A => if n = 1 then .skipPart (leNat p) else .unknown
  | 0x0B => bare .readStatus
  | 0x0C => if n = 1 then .readPart (leNat p) else .unknown
  | 0x0D => bare .readPeers
  | 0x0E => bare .readReports
  | 0x0F => bare .resetStation
  | _ => .unknown

/-! ### Codes (section 11.6) -/

def Station.code : Station → Nat
  | .listen => 0 | .idle => 1 | .run => 2 | .held => 3 | .halted => 4 | .powerDown => 5

def Activity.code : Activity → Nat
  | .moving => 1 | .threading => 2 | .cutting => 3 | .separating => 4 | .recovering => 5
  | .wireCutting => 6 | .dropWatch => 7

/-- The activity's code, 0 when absent. -/
def activityCode (a : Option Activity) : Nat := (a.map Activity.code).getD 0

def PartState.code : PartState → Nat
  | .uncut => 0 | .active => 1 | .interrupted => 2 | .tabbed => 3 | .separating => 4 | .released => 5
  | .hung => 6 | .skipped => 7

def Stage.code : Stage → Nat
  | .off => 0 | .cut => 1 | .window => 2

/-- The pass's code, 0 when absent. -/
def passCode (p : Option Pass) : Nat := (p.map Pass.code).getD 0

def Jet.code : Jet → Nat
  | .off => 0 | .pending => 1 | .waiting => 2 | .holding => 3

def Mode.code : Mode → Nat
  | .hole => 0 | .slot => 1

def Announced.code : Announced → Nat
  | .listen => 0 | .idle => 1 | .moving => 2 | .threading => 3 | .cutting => 4 | .separating => 5
  | .recovering => 6 | .held => 7 | .halted => 8

/-- The phase of a code; codes 9-255 are not assigned. -/
def Announced.ofCode : Nat → Option Announced
  | 0 => some .listen | 1 => some .idle | 2 => some .moving | 3 => some .threading | 4 => some .cutting
  | 5 => some .separating | 6 => some .recovering | 7 => some .held | 8 => some .halted
  | _ => none

def JetNotice.code : JetNotice → Nat
  | .off => 0 | .claim => 1 | .hold => 2

/-- The jet state of a two-bit code; 3 is not assigned. -/
def JetNotice.ofCode : Nat → Option JetNotice
  | 0 => some .off | 1 => some .claim | 2 => some .hold
  | _ => none

def ReportKind.code : ReportKind → Nat
  | .part => 1 | .halt => 2 | .jobEnd => 3 | .threadFail => 4 | .break_ => 5 | .jetConflict => 6
  | .lineFault => 7 | .lineRestored => 8 | .peerLost => 9 | .peerFound => 10 | .dropUnattributed => 11
  | .powerDown => 12

def Status.code : Status → Nat
  | .ok => 0 | .refusedState => 1 | .refusedLocked => 2 | .refusedRange => 3 | .invalid => 4 | .halted => 5
  | .unknown => 6

def Cause.code : Cause → Nat
  | .normal => 1 | .early => 2 | .presumed => 3 | .noDrop => 4
  | .threadLimit => 5 | .breakLimit => 6 | .nesting => 7 | .coordRange => 8 | .arcGeometry => 9
  | .outsideTravel => 10 | .invalidRecord => 11 | .host => 12 | .tabThread => 13
  | .abort => 14 | .halt => 15 | .power => 16 | .reset => 17
  | .travelLimit => 18 | .wireExhausted => 19 | .wireCutFailed => 20 | .duplicateStation => 21 | .skipRun => 22
  | .annealSag => 23 | .jetWait => 24 | .noContact => 25 | .noTension => 26
  | .wireBreak => 27 | .stuckShort => 28 | .retreatExhausted => 29
  | .noSetup => 30 | .startHoleTravel => 31 | .targetRange => 32 | .conditionUnloaded => 33
  | .unterminated => 34 | .tabPlacement => 35 | .tabMissing => 36

/-- The cause's code, 0 when absent. -/
def causeCode (c : Option Cause) : Nat := (c.map Cause.code).getD 0

def FetchFault.cause : FetchFault → Cause
  | .nesting => .nesting | .coordRange => .coordRange | .arcGeometry => .arcGeometry
  | .outsideTravel => .outsideTravel | .invalidRecord => .invalidRecord

def HaltCode.cause : HaltCode → Cause
  | .travelLimit => .travelLimit | .wireExhausted => .wireExhausted | .wireCutFailed => .wireCutFailed
  | .duplicateStation => .duplicateStation | .skipRun => .skipRun

def BreakCondition.cause : BreakCondition → Cause
  | .wireBreak => .wireBreak | .stuckShort => .stuckShort | .retreatExhausted => .retreatExhausted

def ThreadFailure.cause : ThreadFailure → Cause
  | .annealSag => .annealSag | .jetWait => .jetWait | .noContact => .noContact | .noTension => .noTension

/-! ### Notices (R182) -/

/-- Bytes 0-6 of a notice. -/
def Notice.body (n : Notice) : List Byte :=
  [BitVec.ofNat 8 n.station, BitVec.ofNat 8 n.phase.code, BitVec.ofNat 8 n.draw, BitVec.ofNat 8 n.flush,
    BitVec.ofNat 8 ((if n.heavy then 1 else 0) + 2 * n.jet.code)] ++ toBytes 2 n.stamp

/-- The 8 bytes of a notice. -/
def Notice.bytes (n : Notice) : List Byte := n.body ++ [crc8 n.body]

/-- The notice a frame of 8 bytes carries, and none where its check fails, or its station number, phase or
jet field carries a code not assigned, or it is a fragment (R151, R181, R182). -/
def noticeOf (bs : List Byte) : Option Notice :=
  let byte := fun i => leNat (field bs i 1)
  if bs.length = 8 ∧ byte 7 = (crc8 (bs.take 7)).toNat ∧ byte 0 < 8 then
    match Announced.ofCode (byte 1), JetNotice.ofCode (byte 4 / 2 % 4) with
    | some phase, some jet =>
      some { station := byte 0, phase, draw := byte 2 % 16, flush := byte 3 % 16,
             heavy := byte 4 % 2 == 1, jet, stamp := leNat (field bs 5 2) }
    | _, _ => none
  else none

/-! ### Responses (R171, R183) -/

/-- The bytes of a response's frame. -/
def Response.frame (r : Response) : List Byte :=
  frameBytes (r.code :: BitVec.ofNat 8 r.status.code :: r.payload)

/-- A path point as 11 bytes, pass 0 when absent (section 11.5); the other bytes of an absent point hold
`free` (log 19). -/
def pathPointBytes (free : Nat) : Option PathPoint → List Byte
  | none => toBytes 1 0 ++ toBytes 10 free
  | some p => toBytes 1 p.pass.code ++ toBytes 2 p.ordinal ++ toBytes 8 p.progress

/-- A tab point as 11 bytes, record index 0xFFFF when absent (section 11.5); the other bytes of an absent
point hold `freeAt` and `freeCond` (log 19). -/
def tabBytes (freeAt freeCond : Nat) : Option TabPoint → List Byte
  | none => toBytes 8 freeAt ++ toBytes 2 0xFFFF ++ toBytes 1 freeCond
  | some t => intBytes t.at_.x ++ intBytes t.at_.y ++ toBytes 2 t.record.val ++ toBytes 1 t.cond.val

/-- Three per-pass fields of `n` bytes each, with their absent code. -/
def PerPass.bytes (f : PerPass) (n absent : Nat) : List Byte :=
  toBytes n (f.first.getD absent) ++ toBytes n (f.second.getD absent) ++ toBytes n (f.third.getD absent)

/-- The host-set block, 29 bytes (section 11.5). -/
def PartRecord.hostBlock (r : PartRecord) : List Byte :=
  toBytes 1 ((if r.enabled then 1 else 0) + (if r.retain then 2 else 0) + (if r.slotAllowed then 4 else 0)) ++
    intBytes r.origin.x ++ intBytes r.origin.y ++ intBytes r.startHole.x ++ intBytes r.startHole.y ++
    toBytes 1 r.passCount ++ r.contour.bytes 2 0xFFFF ++ r.initial.bytes 1 255 ++
    toBytes 1 r.threadLimit ++ toBytes 1 r.breakLimit

/-- The device-owned block, 42 bytes (section 11.5), of part `number` at report clock `clock`. -/
def PartRecord.deviceBlock (r : PartRecord) (number clock : Nat) : List Byte :=
  let free := fun field => Config.absentBytes field number clock
  toBytes 1 r.state.code ++ toBytes 1 (causeCode r.cause) ++ toBytes 1 r.stage.code ++
    toBytes 1 (passCode r.pass) ++ pathPointBytes (free 0) r.progress ++ tabBytes (free 1) (free 2) r.tab ++
    pathPointBytes (free 3) r.breakPoint ++ toBytes 1 r.breakCount ++ toBytes 4 r.erosion

/-- A report as 11 bytes (section 11.5). -/
def Report.bytes (r : Report) : List Byte :=
  toBytes 1 r.kind.code ++ toBytes 1 ((r.part.map Fin.val).getD 255) ++ toBytes 1 (causeCode r.cause) ++
    toBytes 4 r.detail ++ toBytes 4 r.time

/-- A peer entry as 10 bytes, all 0 when not present (R183; log 41). -/
def peerBytes : Option Peer → List Byte
  | none => toBytes 10 0
  | some p =>
    [flagByte true] ++ toBytes 2 (min p.age 65535) ++ toBytes 1 p.phase.code ++ toBytes 1 p.draw ++
      toBytes 1 p.flush ++ [flagByte p.heavy] ++ toBytes 1 p.jet.code ++ toBytes 2 p.stamp

/-- The capture as 7 bytes: three counts, the saturation flags (normal, arc, short in bits 0-2, log 18), Vm,
the open reading and the generator-on mark (R183). -/
def Capture.bytes (c : Capture) : List Byte :=
  toBytes 1 c.normal ++ toBytes 1 c.arc ++ toBytes 1 c.short ++
    toBytes 1 ((if c.satNormal then 1 else 0) + (if c.satArc then 2 else 0) + (if c.satShort then 4 else 0)) ++
    toBytes 1 c.mean ++ toBytes 1 c.openReading ++ [flagByte c.mark]

end Sys2Proof.Machine
end

