-- ==== Sys2Proof/Machine/Ops.lean ====
section
/-! DEFINITION. The named operations over the Path Store, the Report Queue, the part records, the input
filters and the request buffer. -/

namespace Sys2Proof.Machine

/-! ### The Path Store, byte by byte -/

/-- The bytes of the store (R1). -/
def storeBytes : Nat := Config.storeRecords * Config.recordBytes

/-- What the store holds at a byte address; an unlisted byte is 0, as in a record never written (R1). -/
def storeRead : List Host.Cell → Nat → Byte
  | [], _ => 0
  | (x, v) :: rest, a => if x = a then v else storeRead rest a

/-- Write one byte and keep the canonical form: rising addresses, no 0 listed. -/
def storeWrite : List Host.Cell → Nat → Byte → List Host.Cell
  | [], a, b => if b = 0 then [] else [(a, b)]
  | (x, v) :: rest, a, b =>
    if a < x then (if b = 0 then (x, v) :: rest else (a, b) :: (x, v) :: rest)
    else if a = x then (if b = 0 then rest else (a, b) :: rest)
    else (x, v) :: storeWrite rest a b

/-- Write consecutive bytes from an address. -/
def storeWriteAll (m : List Host.Cell) (a : Nat) : List Byte → List Host.Cell
  | [] => m
  | b :: bs => storeWriteAll (storeWrite m a b) (a + 1) bs

/-- The canonical form from a lower bound on: addresses rising, inside the store, none holding 0. -/
def storeWfFrom : Nat → List Host.Cell → Bool
  | _, [] => true
  | lo, (x, v) :: rest => lo ≤ x && x < storeBytes && v != 0 && storeWfFrom (x + 1) rest

/-- The canonical form of the Path Store. -/
def Store.wf (m : List Host.Cell) : Bool := storeWfFrom 0 m

/-- `n` bytes from an address. -/
def storeField (m : List Host.Cell) (a : Nat) : Nat → List Byte
  | 0 => []
  | n + 1 => storeRead m a :: storeField m (a + 1) n

/-- The path record at an index, as it stands (R1). -/
def State.record (s : State) (i : PathIndex) : PathRecord :=
  PathRecord.read (storeField s.store (i.val * Config.recordBytes) Config.recordBytes)

/-! ### The lock set (R10): record indices in rising order, none twice -/

/-- Add an index to the set. -/
def lockInsert (i : Nat) : List Nat → List Nat
  | [] => [i]
  | j :: rest => if i < j then i :: j :: rest else if i = j then j :: rest else j :: lockInsert i rest

/-! ### Reports (R175) -/

/-- Queue one report: behind those held while there are fewer than 32, else dropped and counted lost. -/
def queueReport (kind : ReportKind) (part : Option PartNo) (cause : Option Cause) (detail : Nat)
    (s : State) : State :=
  s.modReports fun q =>
    if q.items.length < Config.reportSize then
      { q with items := q.items ++
          [{ kind, part, cause, detail := detail % 2 ^ 32, time := s.now % 2 ^ 32 }] }
    else { q with lost := min (q.lost + 1) 65535 }

/-! ### Part records -/

/-- Change one part record. -/
def modPart (p : PartNo) (f : PartRecord → PartRecord) (s : State) : State :=
  s.modNest fun n => n.set p (f n[p])

/-- The PART report of a part's new state: state and current pass in bytes 0 and 1 (R22, section 11.5). -/
def partReport (p : PartNo) (cause : Option Cause) (s : State) : State :=
  queueReport .part (some p) cause ((s.part p).state.code + 256 * passCode (s.part p).pass) s

/-- The part's state is ACTIVE or SEPARATING. -/
def PartRecord.working (r : PartRecord) : Bool :=
  match r.state with
  | .active | .separating => true
  | .uncut | .interrupted | .tabbed | .released | .hung | .skipped => false

/-- A break point or progress in pass S. -/
def inSeparation (p : Option PathPoint) : Option PathPoint := p.filter fun q => q.pass == .separation

/-- A part made INTERRUPTED, field by field (R37). -/
def PartRecord.interrupted (r : PartRecord) : PartRecord :=
  let stage := if r.state = .active then .off else r.stage
  { r with
    state := .interrupted
    cause := none
    stage
    breakPoint :=
      match r.breakPoint, stage with
      | some b, _ => some b
      | none, .off => r.progress
      | none, .cut => inSeparation r.progress
      | none, .window => none }

/-- Make one part INTERRUPTED and queue its PART report (R37, R22). -/
def interrupt (reason : Cause) (p : PartNo) (s : State) : State :=
  partReport p (some reason) (modPart p PartRecord.interrupted s)

/-- The parts 0-31 in order. -/
def allParts : List PartNo := List.finRange 32

/-- Interrupt every part found ACTIVE or SEPARATING (R16). -/
def interruptFound (reason : Cause) (s : State) : State :=
  allParts.foldl (fun s p => if (s.part p).working then interrupt reason p s else s) s

/-- The current part, if it is ACTIVE or SEPARATING. -/
def State.workingPart (s : State) : Option PartNo := s.seq.current.filter fun p => (s.part p).working

/-- Interrupt the current part if it is ACTIVE or SEPARATING (R49, R58, R60). -/
def interruptCurrent (reason : Cause) (s : State) : State :=
  match s.workingPart with
  | some p => interrupt reason p s
  | none => s

/-! ### The input filters (R134, R135) -/

/-- One input's filter. -/
def Filters.get (f : Filters) : Input → Filter
  | .contact => f.contact
  | .tensionOk => f.tensionOk
  | .cutterDone => f.cutterDone
  | .supplySag => f.supplySag
  | .drop => f.drop
  | .wireLow => f.wireLow
  | .limit => f.limit

/-- Change one input's filter. -/
def Filters.put (f : Filters) (v : Filter) : Input → Filters
  | .contact => { f with contact := v }
  | .tensionOk => { f with tensionOk := v }
  | .cutterDone => { f with cutterDone := v }
  | .supplySag => { f with supplySag := v }
  | .drop => { f with drop := v }
  | .wireLow => { f with wireLow := v }
  | .limit => { f with limit := v }

/-- Change one input's filter in the state. -/
def modFilter (i : Input) (g : Filter → Filter) (s : State) : State :=
  s.modFilters fun f => f.put (g (f.get i)) i

/-- One sample of the line: the filtered level changes when two samples in a row read the new level (R134). -/
def Filter.sample (l : Level) (f : Filter) : Filter :=
  { f with last := some l, level := if f.last = some l then l else f.level }

/-- The mismatch event that a change of the filtered level gives (R135). -/
def Filter.event (before after : Filter) : Option Level :=
  if after.level ≠ before.level ∧ after.level ≠ after.expected then some after.level else none

/-- Two samples of a line. At most one of them changes the filtered level. -/
def Filter.sample2 (a b : Level) (f : Filter) : Filter := (f.sample a).sample b

/-- The owner sets the expected level; a filtered level that differs gives its mismatch event at once
(R135). The event waits in `raised` until the entry in hand is made (log 13). -/
def expect (i : Input) (l : Level) (s : State) : State :=
  let s := modFilter i (fun f => { f with expected := l }) s
  let f := s.filters.get i
  if f.level ≠ l then s.setRaised (s.raised ++ [(i, f.level)]) else s

/-- The owner starts to follow the input: the expected level becomes the filtered level (R135). -/
def follow (i : Input) (s : State) : State := modFilter i (fun f => { f with expected := f.level }) s

/-- A mismatch event of a followed input sets its expected level (R31, R54, R135). -/
def followTo (i : Input) (l : Level) (s : State) : State := modFilter i (fun f => { f with expected := l }) s

/-! ### The request buffer and the responses (R170, R171) -/

/-- The request that may be taken: the oldest in the buffer, while no response is being sent and no request
taken earlier is unanswered; none in POWER_DOWN (R170). -/
def State.front (s : State) : Option Request :=
  if s.seq.station = .powerDown ∨ s.link.response.isSome ∨ s.walking then none else s.link.buffer.head?

/-- What the request that may be taken asks. -/
def State.taking (s : State) : Option Parsed := s.front.map Request.parse

/-- Build the response to the request at the front (R171). -/
def answer (status : Status) (payload : List Byte) (s : State) : State :=
  s.modLink fun l => { l with response := l.buffer.head?.map fun r => { code := r.code, status, payload } }

/-- Checks 2 and 3 of R171 for a request that is not a READ and not RESET STATION. -/
def jobGate (takenIn : List Station) (body : State → State) (s : State) : State :=
  if s.seq.station = .halted then answer .halted [] s
  else if s.seq.station ∈ takenIn then body s
  else answer .refusedState [] s

end Sys2Proof.Machine
end

