-- ==== Sys2Proof/Machine/Flags.lean ====
section
/-! DEFINITION. The values that follow from others: the announced phase (R42), the allowances (R161), the
ceiling and the anneal permit (R89, R90), the level target, draw target and flush setpoint (R87, R90, R91),
the generator switch (R92), the off-time (R93), the notice (R155) and the due mark (R156). -/

namespace Sys2Proof.Machine

/-- The announced phase of a station state and activity (R42). RUN with no activity stands only inside an
event, between two activities. -/
def phaseOf (st : Station) (a : Option Activity) : Announced :=
  match st with
  | .listen => .listen
  | .idle => .idle
  | .held => .held
  | .halted | .powerDown => .halted
  | .run =>
    match a with
    | some .threading => .threading
    | some .cutting => .cutting
    | some .separating => .separating
    | some .recovering => .recovering
    | some .moving | some .wireCutting | some .dropWatch | none => .moving

/-- The phase this station announces (R42). -/
def State.phase (s : State) : Announced := phaseOf s.seq.station s.seq.activity

/-- The activity is CUTTING or SEPARATING. -/
def isCutting (a : Option Activity) : Bool := a == some .cutting || a == some .separating

/-- The station is RUN and the activity is CUTTING or SEPARATING (R87, R90, R91). -/
def State.cuttingNow (s : State) : Bool := s.seq.station == .run && isCutting s.seq.activity

/-- The heavy flag: Threader Control is in ANNEAL_WAIT or ANNEAL (R90). -/
def State.heavy (s : State) : Bool := s.thr.phase == .annealWait || s.thr.phase == .anneal

/-- The jet state a notice carries for an own jet state (R155). -/
def Jet.announced : Jet → JetNotice
  | .off => .off
  | .pending | .waiting => .claim
  | .holding => .hold

/-- The claim stamp a notice carries: the own stamp with CLAIM or HOLD, 0 with NONE (R155). -/
def State.announcedStamp (s : State) : Nat := if s.coord.jet = .off then 0 else s.coord.stamp

/-- The cell budget of a strap code (R178). -/
def budget (code : Fin 16) : Nat := if code = 0 then 128 else 8 * code.val

/-- The fresh peers: present and not HALTED (R159). -/
def State.freshPeers (s : State) : List (StationNo × Peer) :=
  (List.finRange 8).filterMap fun n =>
    match s.peer n with
    | some p => if p.phase = .halted then none else some (n, p)
    | none => none

/-- The phases that count toward N (R161). -/
def Announced.works : Announced → Bool
  | .moving | .threading | .cutting | .separating | .recovering => true
  | .listen | .idle | .held | .halted => false

/-- N of R161. -/
def State.sharers (s : State) : Nat := 1 + (s.freshPeers.filter fun p => p.2.phase.works).length

/-- One allowance from a budget and the sum of what the fresh peers announce (R161). -/
def allowance (mode : LineMode) (b sharers announced : Nat) : Nat :=
  match mode with
  | .degraded => min 15 (b / 8)
  | .normal => min 15 (max (b / sharers) (b - announced))

/-- A_P as R161 computes it. -/
def State.powerAllowance (s : State) : Nat :=
  allowance s.coord.mode (budget s.straps.power) s.sharers (s.freshPeers.map fun p => p.2.draw).sum

/-- A_F as R161 computes it. -/
def State.flushAllowance (s : State) : Nat :=
  allowance s.coord.mode (budget s.straps.flush) s.sharers (s.freshPeers.map fun p => p.2.flush).sum

/-- F: the draw of the frame in transmission (R150). -/
def State.inFlight (s : State) : Option Nat := s.port.frame.map Notice.draw

/-- The ceiling: min(D, F) while an own notice is in transmission, else D (R89). -/
def State.ceiling (s : State) : Nat :=
  match s.inFlight with
  | some f => min s.coord.drawn f
  | none => s.coord.drawn

/-- The anneal permit (R90). -/
def State.annealPermit (s : State) : Bool := Config.annealDraw ≤ s.ceiling

/-- min(Lreq, A_P, max(1, floor(Lreq min(A_F, Freq) / Freq))) (R87). -/
def levelFormula (lreq freq ap af : Nat) : Nat := min lreq (min ap (max 1 (lreq * min af freq / freq)))

/-- L_target (R87). -/
def State.levelTarget (s : State) : Nat :=
  match s.cuttingNow, s.gen.cond with
  | true, some c => levelFormula (s.condition c).lreq (s.condition c).freq s.coord.ap s.coord.af
  | _, _ => 0

/-- The flush setpoint (R91). -/
def State.flushTarget (s : State) : Nat :=
  match s.cuttingNow, s.gen.cond with
  | true, some c => min (s.condition c).freq s.coord.af
  | _, _ => 0

/-- The draw target (R90). -/
def State.drawTarget (s : State) : Nat :=
  if s.cuttingNow then s.levelTarget else if s.heavy then Config.annealDraw else 0

/-- The terms that let the generator be on (R92). An absent working segment counts as dry. -/
def State.generatorAllowed (s : State) : Bool :=
  s.thr.wire == .threaded && isCutting s.seq.activity && s.gen.dry == some false &&
    s.seq.station != .held && 1 ≤ s.gen.level

/-- The off-time output: base times 2^k, or its last value while no condition is in use (R93). -/
def State.offTimeOutput (s : State) : Nat :=
  match s.gen.cond with
  | some c => (s.condition c).offBase * 2 ^ s.gen.stretch
  | none => s.gen.offTime

/-- The generator level output (R92). -/
def State.levelOutput (s : State) : Nat := if s.gen.on then s.gen.level else 0

/-- The condition in use and working segment dry become absent outside RUN and HELD, and outside CUTTING,
SEPARATING and RECOVERING (R86). -/
def dropCondition (s : State) : State :=
  if (s.seq.station = .run ∨ s.seq.station = .held) ∧
      (isCutting s.seq.activity ∨ s.seq.activity = some .recovering) then s
  else s.modGen fun g => { g with cond := none, dry := none }

/-- Recompute the allowances (R161). -/
def recomputeAllowances (s : State) : State :=
  s.modCoord fun c => { c with ap := s.powerAllowance, af := s.flushAllowance }

/-- Recompute L_target, lower L to it at once (R87, R88), and recompute the draw target, the flush setpoint
and the off-time (R90, R91, R93). -/
def recomputeLevels (s : State) : State :=
  s.modGen fun g =>
    { g with target := s.levelTarget, level := min g.level s.levelTarget, draw := s.drawTarget,
             flush := s.flushTarget, offTime := s.offTimeOutput }

/-- Switch the generator on or off (R92); an asserted enable output marks the period in progress (R82). -/
def switchGenerator (s : State) : State :=
  let on := s.generatorAllowed
  (s.modGen fun g => { g with on }).modGap fun p => { p with mark := p.mark || on }

/-- Everything an event's changes recompute in Generator Control and the Coordination Unit. -/
def derive (s : State) : State := switchGenerator (recomputeLevels (recomputeAllowances (dropCondition s)))

/-- L rises to min(L_target, ceiling) where that is above it; on period reports alone (R89). -/
def raiseLevel (s : State) : State :=
  s.modGen fun g => { g with level := max g.level (min g.target s.ceiling) }

/-- The notice built from the state of this moment (R155). -/
def State.notice (s : State) : Notice where
  station := s.straps.station.val
  phase := s.phase
  draw := s.gen.draw
  flush := s.gen.flush
  heavy := s.heavy
  jet := s.coord.jet.announced
  stamp := s.announcedStamp

/-- Set the due mark: nothing in SILENT; in QUIET the Port enters READY and its line timer starts (R153,
R156, R157). -/
def setDue (s : State) : State :=
  s.modPort fun p =>
    match p.tx with
    | .silent => p
    | .quiet => { p with tx := .ready, due := true, line := some Config.lineTime }
    | .ready | .sending | .backoff => { p with due := true }

/-- What a notice would say has changed (R156; log 36). -/
def noticeChanged (before after : State) : Bool :=
  before.phase != after.phase || before.gen.draw != after.gen.draw || before.gen.flush != after.gen.flush ||
    before.heavy != after.heavy || before.coord.jet.announced != after.coord.jet.announced ||
    before.announcedStamp != after.announcedStamp

/-- A notice falls due on each change of what it would say (R156). -/
def announce (before after : State) : State := if noticeChanged before after then setDue after else after

/-- Stamp `a` precedes stamp `b` (R162). -/
def stampPrecedes (a b : Nat) : Bool :=
  let d := (b + 65536 - a % 65536) % 65536
  1 ≤ d && d ≤ 32767

/-- Claim (a, m) precedes claim (b, n): by stamp, and by station number where neither stamp precedes (R162). -/
def claimPrecedes (a m b n : Nat) : Bool :=
  stampPrecedes a b || (!stampPrecedes b a && m < n)

/-- C_max takes a stamp when none has been seen or when it precedes the stamp (R162). -/
def seeStamp (stamp : Nat) (s : State) : State :=
  if !s.coord.cmaxSeen || stampPrecedes s.coord.cmax stamp then
    s.modCoord fun c => { c with cmax := stamp, cmaxSeen := true }
  else s

/-- The grant test (R165). -/
def State.grantPasses (s : State) : Bool :=
  s.coord.mode == .normal &&
    s.freshPeers.all fun p =>
      match p.2.jet with
      | .hold => false
      | .claim => claimPrecedes s.coord.stamp s.straps.station.val p.2.stamp p.1.val
      | .off => true

end Sys2Proof.Machine
end

