-- ==== Sys2Proof/Machine/Units.lean ====
section
/-! DEFINITION. What one block asks of another: stops, cuts and thread requests of Threader Control (R121,
R122, R129 to R132), releases of the jet (R166), flushes and starts of the Path Fetcher (R65, R66), path
starts and moves of the Cut Executor (R96), and the Cell Line Port's silence (R157). -/

namespace Sys2Proof.Machine

/-! ### The jet and Threader Control -/

/-- Release the own claim; a release that finds NONE changes nothing (R166). -/
def releaseJet (s : State) : State :=
  s.modCoord fun c =>
    if c.jet = .off then c else { c with jet := .off, settle := none, completed := false }

/-- Release the cutter, anneal current, jet valve and wire feed, and stop the Threader's timers. -/
def releaseOutputs (s : State) : State :=
  s.modThr fun t =>
    { t with cutter := false, anneal := false, valve := false, feed := false, timer := none, sagBlank := none }

/-- Follow CONTACT, SUPPLY_SAG and CUTTER_DONE (R130, R131). -/
def followWireInputs (s : State) : State := follow .cutterDone (follow .supplySag (follow .contact s))

/-- What every stop, withdrawal and failure begins with: outputs released, timers stopped, the jet released,
the three inputs followed. -/
def endAttempt (s : State) : State := followWireInputs (releaseJet (releaseOutputs s))

/-- A stop (R131). -/
def stopThreader (s : State) : State :=
  (endAttempt s).modThr fun t =>
    { t with phase := .idle, request := .off, held := false, tensionCheck := false }

/-- A new request discards any request in hand as a stop would (R121, R132). -/
def discardRequest (s : State) : State := if s.thr.request = .off then s else stopThreader s

/-- Entry to CUT_TIP (R122): the wire UNTHREADED, the tension released and TENSION_OK followed before the
cutter fires and CUTTER_DONE is watched. -/
def enterCutTip (s : State) : State :=
  expect .cutterDone .clear <| follow .tensionOk <|
    s.modThr fun t =>
      { t with wire := .unthreaded, tension := false, cutter := true, phase := .cutTip,
               timer := some Config.cutTipTime, sagBlank := none }

/-- A thread request (R121). -/
def requestThread (mode : Mode) (limit : Nat) (s : State) : State :=
  enterCutTip <| (discardRequest s).modThr fun t =>
    { t with request := .thread, mode := some mode, limit := some limit, attempts := 0, held := false }

/-- A cut request (R132). With a tension check on a THREADED wire the phase is kept for the check time. -/
def requestCut (check : Bool) (s : State) : State :=
  let s := (discardRequest s).modThr fun t => { t with request := .cut, tensionCheck := check }
  if check ∧ s.thr.wire = .threaded then s.modThr fun t => { t with timer := some Config.tensionCheckTime }
  else enterCutTip s

/-- Withdraw a thread in hand for a skip (R129); TENSION_OK is followed unless the wire is THREADED. -/
def withdrawThread (s : State) : State :=
  if s.thr.request = .thread then
    let s := (endAttempt s).modThr fun t => { t with phase := .idle, request := .off, held := false }
    if s.thr.wire = .threaded then s else follow .tensionOk s
  else s

/-- HOLD with a thread in hand (R130): CUT_TIP's stroke runs on, DONE stands, every other phase stops and the
thread is held. -/
def holdThread (s : State) : State :=
  if s.thr.request = .thread then
    match s.thr.phase with
    | .annealWait | .anneal | .jetClaim | .feed | .tension =>
      (endAttempt s).modThr fun t => { t with phase := .idle, held := true }
    | .idle | .cutTip | .done => s
  else s

/-! ### The Path Fetcher and the Cut Executor -/

/-- Clear the Executor's walk and move; position and front are kept (R96). -/
def clearWalk (s : State) : State :=
  (s.setHistory []).modExe fun e =>
    { e with task := .off, cursor := 0, progress := 0, rd := 0, stuck := 0, move := none, seek := none }

/-- A flush (R66, R96). -/
def flush (s : State) : State := clearWalk ((s.setQueue []).modFetch fun _ => Fetcher.flushed)

/-- A dry target is absent if its pass comes before the start's pass (R65, R74). -/
def carriedTarget (pass : Pass) (target : Option PathPoint) : Option PathPoint :=
  target.filter fun t => pass.code ≤ t.pass.code

/-- A start request to the Fetcher (R65) with the path start of the Executor (R96), the current pass (R18)
and, for passes 1-3, the pass start point (R137). -/
def startPass (p : PartNo) (pass : Pass) (index : PathIndex) (start : Point) (cond : CondNo)
    (target seek : Option PathPoint) (s : State) : State :=
  let s := (s.setQueue []).modFetch fun _ =>
    { state := .running, part := some p, pass := some pass, position := some index, stack := [],
      offset := ⟨0, 0⟩, endPoint := some start, cond := some cond, target := carriedTarget pass target,
      ordinal := 0 }
  let s := (s.setHistory []).modExe fun e =>
    { e with task := .path, cursor := 0, progress := 0, front := some ⟨pass, 0, 0⟩, rd := 0, stuck := 0,
             move := none, seek }
  let s := modPart p (fun r => { r with pass := some pass }) s
  if pass = .separation then s else s.modSeq fun q => { q with passStart := some start }

/-- Start one of passes 1-3 of a part on its own contour with its initial condition (R25, R26, R141, R142). A
job that passed validation holds both in their ranges (R12). -/
def startContour (p : PartNo) (pass : Pass) (start : Point) (target seek : Option PathPoint) (s : State) : State :=
  let r := s.part p
  startPass p pass (Fin.ofNat 4096 ((r.contour.get pass).getD 0)) start
    (Fin.ofNat 16 ((r.initial.get pass).getD 0)) target seek s

/-- Start pass S from the tab point (R29, R145). A part selected for separation has one (R28). -/
def startSeparation (p : PartNo) (target : Option PathPoint) (s : State) : State :=
  match (s.part p).tab with
  | some t => startPass p .separation t.record t.at_ t.cond target none s
  | none => s

/-- A move request (R96, R108). -/
def requestMove (target : Point) (s : State) : State :=
  s.modExe fun e =>
    { e with task := .move,
             move := some ⟨e.position, target, lineLength e.position target, 0⟩ }

/-- The target of a move to a part's tab point. -/
def tabTarget (p : PartNo) (s : State) : Point := ((s.part p).tab.map TabPoint.at_).getD s.exe.position

/-! ### The Cell Line Port -/

/-- SILENT on a DUPLICATE_STATION halt (R157). -/
def silencePort (s : State) : State :=
  (s.modPort fun p => { p with tx := .silent, due := false, line := none, frame := none }).modCoord
    fun c => { c with refresh := none }

end Sys2Proof.Machine
end

