-- ==== Sys2Proof/Machine/Sequencer.lean ====
section
/-! DEFINITION. The Station Sequencer's shared operations: outcomes of parts (R22, R32 to R39), the wire cut
that follows them (R47), the selection point (R23 to R29, R148), halts (R58), skips (R51), recoveries (R55,
R139 to R147) and what it does with each completion that another block hands it. -/

namespace Sys2Proof.Machine

/-! ### Small writes -/

/-- Write the activity. -/
def setActivity (a : Activity) (s : State) : State := s.modSeq fun q => { q with activity := some a }

/-- Write the owed step of the condition latch (R47). -/
def setOwed (o : OwedStep) (s : State) : State := s.modSeq fun q => { q with owed := some o }

/-- Route, step and rethread point of the recovery record at their initial values (R137, R146, R147). The
pass start point stays while the part is current (R137; log 29). -/
def clearRecovery (s : State) : State :=
  s.modSeq fun q => { q with route := .off, step := none, rethread := none }

/-- The current part becomes absent, and with it the pass start point (R137), the recovery record (R147) and
a skip owed for it (log 23). -/
def dropCurrent (s : State) : State :=
  clearRecovery (s.modSeq fun q => { q with current := none, passStart := none, skipOwed := false })

/-- Write a route and its step. -/
def setRoute (r : Route) (t : RouteStep) (s : State) : State :=
  s.modSeq fun q => { q with route := r, step := some t }

/-- Write the step of the route in hand. -/
def setStep (t : RouteStep) (s : State) : State := s.modSeq fun q => { q with step := some t }

/-- Close the drop window: its timer is stopped. -/
def closeWindow (s : State) : State := s.modSeq fun q => { q with window := none }

/-- Set the consecutive-skip count to 0 (R39). -/
def clearSkips (s : State) : State := s.modSeq fun q => { q with skipCount := 0 }

/-! ### Outcomes -/

/-- A part record in a final state: stage NONE and no break point (R18, R32 to R34, R38). -/
def PartRecord.final (st : PartState) (cause : Option Cause) (r : PartRecord) : PartRecord :=
  { r with state := st, cause, stage := .off, breakPoint := none }

/-- The cause a PART report of a final state carries (R22). -/
def outcomeCause (st : PartState) (cause : Option Cause) : Option Cause :=
  if st = .released then some (cause.getD .normal) else cause

/-- A part reaches RELEASED, HUNG or SKIPPED with its PART report; if it is the current part, none is
current any more (R22, R40). -/
def finishPart (p : PartNo) (st : PartState) (cause : Option Cause) (s : State) : State :=
  let s' := partReport p (outcomeCause st cause) (modPart p (PartRecord.final st cause) s)
  if s.seq.current = some p then dropCurrent s' else s'

/-- The wire cut that an outcome owes: at once in RUN, owed until RESUME in HELD (R47, R132). -/
def beginCut (check : Bool) (s : State) : State :=
  if s.seq.station = .held then setOwed (if check then .tensionCut else .wireCut) s
  else requestCut check (setActivity .wireCutting s)

/-- LIMIT and WIRE_LOW are followed again when the station leaves RUN and HELD (R54, R135, section 7.9). -/
def followLimits (s : State) : State := follow .wireLow (follow .limit s)

/-- Entry to IDLE: the activity and the current part absent, the latch and the lock set empty (R10, R40). -/
def enterIdle (s : State) : State :=
  followLimits
    (((dropCurrent s).modSeq fun q => { q with station := .idle, activity := none, owed := none }).setLocks [])

/-! ### The selection point (R23) -/

/-- The lowest-numbered enabled part that a test accepts. -/
def findPart (s : State) (test : PartRecord → Bool) : Option PartNo :=
  allParts.find? fun p => (s.part p).enabled && test (s.part p)

/-- The part a selection point takes, in the order of R23. -/
def choosePart (s : State) : Option PartNo :=
  (findPart s fun r => r.state == .interrupted && r.stage == .off) <|>
  (findPart s fun r => r.state == .uncut) <|>
  (findPart s fun r => r.state == .interrupted && r.stage != .off) <|>
  (findPart s fun r => r.state == .tabbed)

/-- The job end (R24). -/
def jobEnd (s : State) : State := enterIdle (queueReport .jobEnd none none s.gen.total s)

/-- Make a part ACTIVE or SEPARATING at selection, with its PART report (R25, R29, R148). -/
def takeUp (p : PartNo) (f : PartRecord → PartRecord) (s : State) : State := partReport p none (modPart p f s)

/-- The recovery of a resumed part starts at the CUT step of its route (R148). -/
def beginResumption (r : Route) (s : State) : State :=
  requestCut false (setRoute r .cut (setActivity .recovering s))

/-- Work on the part selected (R25, R29, R148). -/
def beginPart (p : PartNo) (s : State) : State :=
  let r := s.part p
  let s := s.modSeq fun q => { q with current := some p }
  match r.state, r.stage with
  | .interrupted, .off => beginResumption .hole (takeUp p (fun r => { r with state := .active }) s)
  | .interrupted, .window =>
    let s := takeUp p (fun r => { r with state := .separating, pass := some .separation }) s
    (setActivity .dropWatch s).modSeq fun q => { q with window := some s.setup.dropTime }
  | .interrupted, .cut =>
    let s := takeUp p (fun r => { r with state := .separating, pass := some .separation }) s
    if r.breakPoint.isSome then beginResumption .tab s
    else requestMove (tabTarget p s) (setActivity .moving s)
  | .tabbed, _ =>
    let s := takeUp p (fun r => { r with state := .separating, stage := .cut, pass := some .separation }) s
    requestMove (tabTarget p s) (setActivity .moving s)
  | _, _ => requestMove r.startHole (setActivity .moving s)

/-- A selection point; in HELD it is owed until RESUME (R23, R47). -/
def selectionPoint (s : State) : State :=
  if s.seq.station = .held then setOwed .select s
  else
    match choosePart s with
    | some p => beginPart p s
    | none => jobEnd s

/-! ### Halts (R58) -/

/-- A validation walk in progress ends, and START JOB is answered HALTED (R14). -/
def endWalkHalted (s : State) : State :=
  if s.walking then answer .halted [] (s.setWalking false) else s

/-- A halt, in the order of R58. -/
def haltStation (code : HaltCode) (s : State) : State :=
  let left := s.seq
  let hit := s.workingPart
  let s := endWalkHalted (closeWindow (stopThreader (flush s)))
  let s := interruptCurrent .halt s
  let s := s.modSeq fun q => { q with halt := some code }
  let s := queueReport .halt hit (some code.cause) (left.station.code + 256 * activityCode left.activity) s
  let s := (dropCurrent s).modSeq fun q =>
    { q with station := .halted, activity := none, owed := none, listen := none }
  let s := followLimits s
  if code = .duplicateStation then silencePort s else s

/-! ### Skips (R38, R51) -/

/-- A part being worked is skipped: flush, the outcome, the wire cut (R38). -/
def skipWorked (p : PartNo) (cause : Cause) (s : State) : State :=
  beginCut false (finishPart p .skipped (some cause) (flush s))

/-- The pending skip is acted at its boundary (R51). `cutNeeded` is no at the completion of a cut. -/
def actSkip (cutNeeded : Bool) (s : State) : State :=
  match s.seq.current with
  | none => s
  | some p =>
    let s := withdrawThread (closeWindow (flush (s.modSeq fun q => { q with skipOwed := false })))
    let s := finishPart p .skipped (some .host) s
    if cutNeeded then beginCut false s else selectionPoint s

/-- At a boundary the pending skip is acted in place of what would follow (R51, R129). -/
def atBoundary (next : State → State) (s : State) : State :=
  if s.seq.skipOwed then actSkip true s else next s

/-- SKIPPED with THREAD_LIMIT: the consecutive-skip count rises, and at 3 the station halts and no wire cut
is made (R38, R39, R143). -/
def skipThreadLimit (p : PartNo) (s : State) : State :=
  let s := (finishPart p .skipped (some .threadLimit) (flush s)).modSeq fun q =>
    { q with skipCount := min (q.skipCount + 1) 3 }
  if 3 ≤ s.seq.skipCount then haltStation .skipRun s else beginCut false s

/-! ### Recoveries -/

/-- A point whose progress equals its segment's length is the next ordinal at progress 0 (R138). A STOP or FAULT
entry is no segment (R75), and a point at it stands as it is. -/
def PathPoint.normal (p : PathPoint) (segment : Option Entry) : PathPoint :=
  match segment with
  | some e =>
    if e.isPath ∧ e.ordinal = p.ordinal ∧ p.progress = e.length then { p with ordinal := p.ordinal + 1, progress := 0 }
    else p
  | none => p

/-- The front as a break point (R138). -/
def State.frontPoint (s : State) : Option PathPoint := s.exe.front.map fun f => f.normal s.queue.head?

/-- The working segment: the queue head at cursor 0, the history entry at the cursor while retreated (R97). A
STOP or FAULT entry is no segment (log 31). -/
def State.workingSegment (s : State) : Option Entry :=
  match s.exe.cursor with
  | 0 => s.queue.head?.filter Entry.isPath
  | c + 1 => s.history[c]?

/-- The working position as a point of the path (R97, R140). -/
def State.workingPoint (s : State) : Option PathPoint :=
  match s.workingSegment with
  | some e => some (PathPoint.normal ⟨e.pass, e.ordinal, s.exe.progress⟩ (some e))
  | none => s.exe.front

/-- The route of a recovery begun under R55 (R139). -/
def recoveryRoute (r : PartRecord) (a : Option Activity) : Route :=
  if r.state = .separating then .tab
  else if a = some .cutting ∧ r.slotAllowed then .slot else .hole

/-- The flush and the first step of a recovery (R55 step 4, R140, R142, R145). -/
def beginRecovery (c : BreakCondition) (s : State) : State :=
  match s.seq.current with
  | none => s
  | some p =>
    let r := s.part p
    let route := recoveryRoute r s.seq.activity
    let s := setActivity .recovering (flush s)
    if route = .slot ∧ c = .wireBreak then requestThread .slot r.threadLimit (setRoute .slot .thread s)
    else requestCut false (setRoute route .cut s)

/-- R55 takes a break-class condition in this state. -/
def State.recoverable (s : State) : Option PartNo :=
  s.seq.current.filter fun p =>
    ((s.part p).state == .active || ((s.part p).state == .separating && (s.part p).stage == .cut)) &&
      (isCutting s.seq.activity || s.seq.activity == some .recovering)

/-- The count and the break point of R55 step 4, and the rethread point of R140, recorded before the flush. A
recovery in hand is abandoned, and its record returns to its initial values (R137, R147). -/
def countBreak (p : PartNo) (s : State) : State :=
  let front := s.frontPoint
  let s' := modPart p (fun r => { r with breakCount := r.breakCount + 1, breakPoint := r.breakPoint <|> front }) s
  if recoveryRoute (s.part p) s.seq.activity = .slot then
    s'.modSeq fun q => { q with rethread := s.workingPoint.map fun w => ⟨w, s.exe.position⟩ }
  else if s.seq.activity = some .recovering then clearRecovery s'
  else s'

/-- A break-class condition at the Sequencer (R52, R53, R55, R56). The stop of the Executor makes the seek point
absent (R141). -/
def breakTaken (c : BreakCondition) (s : State) : State :=
  if s.seq.station = .run ∨ s.seq.station = .held then
    match s.recoverable with
    | some p =>
      let r := s.part p
      let s := s.modExe fun e => { e with task := .off, seek := none }
      let s := queueReport .break_ (some p) (some c.cause) (r.breakCount + 1) s
      if s.seq.skipOwed then actSkip true s
      else if r.breakLimit < r.breakCount + 1 then skipWorked p .breakLimit s
      else if s.seq.station = .held then setOwed .recovery (countBreak p s)
      else beginRecovery c (countBreak p s)
    | none =>
      if c = .wireBreak then
        queueReport .break_ s.seq.current (some c.cause)
          ((s.seq.current.map fun p => (s.part p).breakCount).getD 0) s
      else s
  else s

/-- The next step of a route after its CUT step (R140, R142, R145, R147). -/
def routeAfterCut (s : State) : State :=
  match s.seq.current, s.seq.route with
  | some p, .slot => requestThread .slot (s.part p).threadLimit (setStep .thread s)
  | some p, .hole => requestMove (s.part p).startHole (setStep .move s)
  | some p, .tab => requestMove (tabTarget p s) (setStep .move s)
  | _, _ => s

/-! ### What other blocks hand to the Sequencer -/

/-- The cut completion (R23, R28, R47, R51, R132, R147). DESIGN CHOICE (log 40): with no part current in HELD it
leaves SELECT owed, TENSION_CUT among the steps that this replaces. -/
def cutCompleted (s : State) : State :=
  match s.seq.current with
  | none => selectionPoint s
  | some p =>
    if s.seq.skipOwed then actSkip false s
    else if s.seq.activity = some .recovering ∧ s.seq.step = some .cut then
      if s.seq.station = .held then setOwed .routeStep s else routeAfterCut s
    else if (s.part p).state = .active then
      let s := partReport p none (modPart p (fun r => { r with state := .tabbed }) s)
      selectionPoint (dropCurrent (clearSkips s))
    else selectionPoint s

/-- The arrival of a move (R43, R44, R51, R142, R145). -/
def moveArrived : State → State :=
  atBoundary fun s =>
    match s.seq.current, s.seq.activity with
    | some p, some .moving =>
      let mode := if (s.part p).state = .uncut then Mode.hole else Mode.slot
      requestThread mode (s.part p).threadLimit (setActivity .threading s)
    | some p, some .recovering =>
      let mode := if s.seq.route = .tab then Mode.slot else Mode.hole
      requestThread mode (s.part p).threadLimit (setStep .thread s)
    | _, _ => s

/-- The thread completion (R25, R29, R51, R141, R142, R145). -/
def threadCompleted : State → State :=
  atBoundary fun s =>
    match s.seq.current with
    | none => s
    | some p =>
      let r := s.part p
      match s.seq.activity, r.state, s.seq.route with
      | some .threading, .uncut, _ =>
        let s := takeUp p (fun r =>
          { r with state := .active, pass := some .first, progress := some ⟨.first, 0, 0⟩ }) s
        startContour p .first r.startHole none none (setActivity .cutting s)
      | some .threading, .separating, _ =>
        let s := modPart p (fun r => { r with progress := some ⟨.separation, 0, 0⟩ }) s
        startSeparation p none (setActivity .separating s)
      | some .recovering, _, .slot =>
        match r.pass, s.seq.passStart, s.seq.rethread with
        | some pass, some start, some w =>
          startContour p pass start r.breakPoint (some w.point) (setStep .seek s)
        | _, _, _ => s
      | some .recovering, _, .hole => startContour p .first r.startHole r.breakPoint none (setStep .replay s)
      | some .recovering, _, .tab => startSeparation p r.breakPoint (setStep .replay s)
      | _, _, _ => s

/-- The attempt limit of a thread, with no skip pending (R38, R128, R140, R143, R145). -/
def threadLimitReached (s : State) : State :=
  match s.seq.current with
  | none => s
  | some p =>
    match s.seq.activity, s.seq.route with
    | some .recovering, .slot => requestCut false (setRoute .hole .cut s)
    | some .recovering, .tab => skipWorked p .tabThread s
    | some .recovering, _ => skipThreadLimit p s
    | _, _ => if (s.part p).state = .separating then skipWorked p .tabThread s else skipThreadLimit p s

/-- The drop window opens: stage WINDOW, activity DROP_WATCH and the timer at the setup drop time (R30). A
skip still owed is acted at once, as in DROP_WATCH (R51; log 22). -/
def openWindow (p : PartNo) (s : State) : State :=
  let was := (s.part p).state
  let s := modPart p (fun r => { r with state := .separating, stage := .window }) s
  let s := if was = .separating then s else partReport p none s
  let s := (setActivity .dropWatch s).modSeq fun q => { q with window := some s.setup.dropTime }
  atBoundary id s

/-- The end of a recovery: break point absent, record at its initial values (R146). -/
def endRecovery (p : PartNo) (s : State) : State :=
  clearRecovery (modPart p (fun r => { r with breakPoint := none }) s)

/-- The pass that follows the part's current pass, if that is not the last (R26). -/
def PartRecord.nextPass (r : PartRecord) : Option Pass :=
  match r.pass with
  | some p => if p.code < r.passCount then p.next else none
  | none => none

/-- A stop at the queue head: its kind, position and condition (R26, R28, R30, R76, R144, R146). -/
def stopTaken (tab : Bool) (at_ : Point) (cond : CondNo) (s : State) : State :=
  match s.seq.current with
  | none => s
  | some p =>
    let r := s.part p
    let recovering := s.seq.activity == some .recovering
    match r.nextPass with
    | some pass => startContour p pass at_ (if recovering then r.breakPoint else none) none s
    | none =>
      let s := if recovering then endRecovery p s else s
      if tab then
        let record := s.fetch.position.getD 0
        beginCut false (modPart p (fun r => { r with tab := some ⟨at_, record, cond⟩ }) s)
      else openWindow p s

/-- A FAULT entry at the queue head (R52, R57; log 24). -/
def faultTaken (f : FetchFault) : State → State :=
  atBoundary fun s =>
    match s.seq.current with
    | none => s
    | some p => skipWorked p f.cause s

/-- Target point reached (R105, R146). -/
def targetReached (s : State) : State :=
  match s.seq.current with
  | none => s
  | some p =>
    let a := if (s.part p).pass = some .separation then Activity.separating else Activity.cutting
    setActivity a (endRecovery p s)

/-! ### Drops -/

/-- EARLY_DROP (R34). -/
def earlyDrop (p : PartNo) (s : State) : State :=
  beginCut true (clearSkips (finishPart p .released (some .early) (flush s)))

/-- A drop in the open window (R32). -/
def dropInWindow (p : PartNo) (s : State) : State :=
  beginCut false (clearSkips (finishPart p .released none (closeWindow s)))

/-- An unattributed drop (R35). -/
def unattributedDrop (s : State) : State :=
  let s := s.modSeq fun q => { q with dropCount := min (q.dropCount + 1) 32 }
  queueReport .dropUnattributed none none s.seq.dropCount s

/-- A drop taken in RUN or HELD, by the state of the work (R32, R34, R35). -/
def dropTaken (s : State) : State :=
  match s.workingPart with
  | some p =>
    if (s.part p).state = .separating ∧ (s.part p).stage = .window then dropInWindow p s else earlyDrop p s
  | none => unattributedDrop s

/-- The drop window's expiry (R33). -/
def windowExpired (p : PartNo) (s : State) : State :=
  let s := closeWindow s
  if 0 < s.seq.dropCount then
    let s := s.modSeq fun q => { q with dropCount := q.dropCount - 1 }
    beginCut false (clearSkips (finishPart p .released (some .presumed) s))
  else beginCut false (finishPart p .hung (some .noDrop) s)

end Sys2Proof.Machine
end

