-- ==== Sys2Proof/Machine/Threading.lean ====
section
/-! DEFINITION. Threader Control's phases: their entries, their ends and their failures (R122 to R130), the
jet claim and its grant (R163, R165, R167), and the wire break (R133). -/

namespace Sys2Proof.Machine

/-! ### The jet claim -/

/-- The request for the jet on entry to JET_CLAIM: a new claim with the stamp after C_max, or the claim kept
after a conflict (R163). -/
def claimJet (s : State) : State :=
  s.modCoord fun c =>
    if c.jet = .off then { c with jet := .pending, stamp := (c.cmax + 1) % 65536, completed := false } else c

/-- Entry to JET_CLAIM; the jet wait limit starts (R125). -/
def enterJetClaim (s : State) : State :=
  (claimJet s).modThr fun t =>
    { t with phase := .jetClaim, timer := some Config.jetWaitTime, sagBlank := none }

/-- FEED's time by mode (R126). -/
def feedTime (m : Option Mode) : Nat := if m = some .slot then Config.feedSlotTime else Config.feedHoleTime

/-- Entry to FEED: valve, feed, the watch on CONTACT, the timer (R126). -/
def enterFeed (s : State) : State :=
  expect .contact .clear <|
    s.modThr fun t => { t with valve := true, feed := true, phase := .feed, timer := some (feedTime t.mode) }

/-- The grant: HOLDING, the jet wait limit stopped, the boundary offered, then FEED (R125, R129, R165). -/
def grant (s : State) : State :=
  atBoundary enterFeed <|
    (s.modCoord fun c => { c with jet := .holding }).modThr fun t => { t with timer := none }

/-- The grant test while WAITING (R165). -/
def grantTest (s : State) : State :=
  if s.coord.jet = .waiting ∧ s.grantPasses then grant s else s

/-- A peer's HOLD whose claim precedes: FEED is withdrawn uncounted, the claim returns to WAITING with its
stamp, and JET_CONFLICT is queued (R126, R167). -/
def jetConflict (peer : StationNo) (s : State) : State :=
  let s := s.modCoord fun c => { c with jet := .waiting }
  let s := follow .contact (s.modThr fun t => { t with valve := false, feed := false })
  queueReport .jetConflict s.seq.current none (peer.val + 65536 * s.coord.stamp) (enterJetClaim s)

/-! ### The phases of an attempt -/

/-- Entry to ANNEAL: the current, the timer, the sag blank; SUPPLY_SAG followed (R124). -/
def enterAnneal (s : State) : State :=
  follow .supplySag <|
    s.modThr fun t =>
      { t with anneal := true, phase := .anneal, timer := some Config.annealTime,
               sagBlank := some Config.sagBlankTime }

/-- ANNEAL_WAIT's test of A_P and the anneal permit (R123). -/
def annealTest (s : State) : State :=
  if s.thr.phase = .annealWait ∧ Config.annealDraw ≤ s.coord.ap ∧ s.annealPermit then atBoundary enterAnneal s
  else s

/-- ANNEAL's timer ends: current off, SUPPLY_SAG followed, the boundary, then JET_CLAIM (R124, R129). -/
def annealEnded (s : State) : State :=
  atBoundary enterJetClaim <|
    follow .supplySag <| s.modThr fun t => { t with anneal := false, timer := none, sagBlank := none }

/-- Entry to TENSION (R127). -/
def enterTension (s : State) : State :=
  expect .tensionOk .clear <|
    s.modThr fun t => { t with tension := true, phase := .tension, timer := some Config.tensionTime }

/-- CONTACT in FEED: valve and feed off, the jet released, the boundary, then TENSION (R126, R129). -/
def contactTaken (s : State) : State :=
  atBoundary enterTension <|
    releaseJet <| follow .contact <|
      s.modThr fun t => { t with valve := false, feed := false, timer := none }

/-- Entry to DONE: the wire is THREADED, the break watch begins, and the Sequencer is handed the completion
(R127). -/
def enterDone (s : State) : State :=
  threadCompleted <|
    expect .tensionOk .asserted <|
      s.modThr fun t => { t with timer := none, wire := .threaded, phase := .done, request := .off }

/-- The mode and the attempt count as the detail of a THREAD_FAIL report (R175, section 11.5). -/
def attemptDetail (t : Threader) : Nat := ((t.mode.map Mode.code).getD 0) + 256 * t.attempts

/-- An attempt fails: outputs and jet released, counted and reported, the boundary offered, then the next
attempt or the attempt limit (R128, R129, R52). -/
def attemptFailed (f : ThreadFailure) (s : State) : State :=
  let s := (endAttempt s).modThr fun t => { t with attempts := t.attempts + 1 }
  let s := queueReport .threadFail s.seq.current (some f.cause) (attemptDetail s.thr) s
  atBoundary (fun s =>
    if s.thr.limit.getD 0 ≤ s.thr.attempts then
      threadLimitReached (s.modThr fun t => { t with phase := .idle, request := .off })
    else enterCutTip s) s

/-- A stroke has ended, by CUTTER_DONE or by its timeout: cutter released, timer stopped, CUTTER_DONE followed
(R122). -/
def strokeEnded (s : State) : State :=
  follow .cutterDone (s.modThr fun t => { t with cutter := false, timer := none })

/-- CUTTER_DONE in CUT_TIP: a cut request completes; a thread goes on to ANNEAL_WAIT, or is held in HELD
(R122, R129, R130, R132). The tension check returns to no with the completed request (DEDUCED, log 43). -/
def cutterDoneTaken (s : State) : State :=
  let s := strokeEnded s
  if s.thr.request = .cut then
    cutCompleted (s.modThr fun t => { t with phase := .idle, request := .off, tensionCheck := false })
  else
    atBoundary (fun s =>
      if s.seq.station = .held then s.modThr fun t => { t with phase := .idle, held := true }
      else s.modThr fun t => { t with phase := .annealWait }) s

/-- The CUT_TIP timeout: CUTTER_FAULT, which halts in RUN and HELD (R53, R54, R122). -/
def cutterFault (s : State) : State :=
  let s := strokeEnded s
  if s.seq.station = .run ∨ s.seq.station = .held then haltStation .wireCutFailed s else s

/-- A wire break (R133). -/
def wireBroken (s : State) : State :=
  breakTaken .wireBreak <|
    follow .tensionOk <| s.modThr fun t =>
      { t with wire := .unthreaded, tension := false, phase := if t.phase = .done then .idle else t.phase }

end Sys2Proof.Machine
end

