-- ==== Sys2Proof/Machine/Events.lean ====
section
/-! DEFINITION. Mismatch events of the input filters at their owners (R31, R54, R122 to R127, R133, R135),
and the end of an event: what Generator Control, Threader Control and the Coordination Unit take from what
has changed (R86 to R93, R123, R124, R156, R161). -/

namespace Sys2Proof.Machine

/-- The station state is RUN or HELD. -/
def State.inJob (s : State) : Bool := s.seq.station == .run || s.seq.station == .held

/-- The owner watches the input and waits for this level; any other event only sets the expected level
(section 7.9, R135). A drop, a limit and a low wire act in RUN and HELD (R31, R54). -/
def State.watches (s : State) (i : Input) (l : Level) : Bool :=
  match i with
  | .contact => s.thr.phase == .feed && l == .asserted
  | .tensionOk =>
    (s.thr.wire == .threaded && l == .clear) || (s.thr.phase == .tension && l == .asserted)
  | .cutterDone => s.thr.phase == .cutTip && s.thr.cutter && l == .asserted
  | .supplySag => s.thr.phase == .anneal && s.thr.sagBlank.isNone && l == .asserted
  | .drop => s.inJob && l == .asserted
  | .wireLow => s.inJob
  | .limit => s.inJob

/-- What the owner does with an event it watches for. DROP's expected level follows the input always (R31). -/
def actOn (i : Input) (l : Level) (s : State) : State :=
  match i with
  | .contact => contactTaken s
  | .tensionOk => if s.thr.wire = .threaded ∧ l = .clear then wireBroken s else enterDone s
  | .cutterDone => cutterDoneTaken s
  | .supplySag => attemptFailed .annealSag s
  | .drop => dropTaken (followTo .drop l s)
  | .wireLow => haltStation .wireExhausted s
  | .limit => haltStation .travelLimit s

/-- A mismatch event at its owner (R135). -/
def takeEvent (i : Input) (l : Level) (s : State) : State :=
  if s.watches i l then actOn i l s else followTo i l s

/-- What follows from an effect that began in `before`: the values that other units take from what has changed,
and the notice due if what it would say has changed (R86 to R93, R156, R161). -/
def conclude (before after : State) : State := announce before (derive after)

/-- Take the mismatch events that the entries of the event in hand have given, oldest first (log 13). Each is an
event of its own, with what follows from it; no entry gives more than a few. -/
def drain : Nat → State → State
  | 0, s => s
  | n + 1, s =>
    match s.raised with
    | [] => s
    | (i, l) :: rest => drain n (conclude s (takeEvent i l (s.setRaised rest)))

/-- An effect that began in `before`, with the mismatch events it has given. -/
def quiesce (before after : State) : State := drain 16 (conclude before after)

/-- The end of an event that began in `before`. ANNEAL_WAIT tests its terms (R123). -/
def finish (before after : State) : State :=
  let s := quiesce before after
  quiesce s (annealTest s)

/-- Two samples of an input line, and the mismatch event that a change of the filtered level gives (R134,
R135; log 8). No sample is taken in POWER_DOWN. -/
def sampleInput (i : Input) (a b : Level) (s : State) : State :=
  if s.seq.station = .powerDown then s
  else
    let f := s.filters.get i
    let g := f.sample2 a b
    let t := modFilter i (fun _ => g) s
    match Filter.event f g with
    | none => t
    | some l => if t.watches i l then finish s (actOn i l t) else followTo i l t

end Sys2Proof.Machine
end

