-- ==== Sys2Proof/Machine/Fetching.lean ====
section
/-! DEFINITION. The Path Fetcher's emissions (R67 to R74): reading records until one entry is placed. -/

namespace Sys2Proof.Machine

/-- Where reading stands: the next record, the call stack, the offset in force, the current condition (R63). -/
structure ReadPoint where
  position : PathIndex
  stack : List CallFrame
  offset : Point
  cond : CondNo
  deriving DecidableEq, Repr

/-- What taking one record gives. -/
inductive Taken where
  /-- Reading goes on. -/
  | on (p : ReadPoint)
  /-- A segment, with reading at the next record. -/
  | segment (kind : EntryKind) (stop : Point) (centre : Option Point) (length : Nat) (p : ReadPoint)
  /-- A STOP entry, with reading at the next record. -/
  | stop (tab : Bool) (p : ReadPoint)
  /-- A FAULT entry; reading stays at the record that failed. -/
  | fault (cause : FetchFault)
  deriving DecidableEq, Repr

/-- The fixed part of one emission: the part's record and pass, the setup record, the running end point and
the next ordinal. -/
structure Emission where
  record : PartRecord
  pass : Pass
  setup : Setup
  start : Point
  ordinal : Nat
  deriving DecidableEq, Repr

/-- The machine coordinate of a record point (R5). -/
def composed (e : Emission) (p : ReadPoint) (x y : Int) : Point := (e.record.origin.add p.offset).add ⟨x, y⟩

/-- Reading at the next record. -/
def ReadPoint.next (p : ReadPoint) : ReadPoint := { p with position := p.position + 1 }

/-- A LINE, its checks in the order of R71. -/
def takeLine (e : Emission) (p : ReadPoint) (x y : Int) : Taken :=
  let stop := composed e p x y
  if !stop.inRange then .fault .coordRange
  else if stop = e.start then .on p.next
  else if !e.setup.inWindow stop then .fault .outsideTravel
  else if 65534 < e.ordinal then .fault .invalidRecord
  else .segment .line stop none (lineLength e.start stop) p.next

/-- An ARC_CW or ARC_CCW, its checks in the order of R71. -/
def takeArc (e : Emission) (p : ReadPoint) (cw : Bool) (x y cx cy : Int) : Taken :=
  let stop := composed e p x y
  let centre := composed e p cx cy
  if !(stop.inRange && centre.inRange) then .fault .coordRange
  else if arcFails cw e.start stop centre then .fault .arcGeometry
  else if !e.setup.inWindow stop then .fault .outsideTravel
  else if 65534 < e.ordinal then .fault .invalidRecord
  else .segment (if cw then .arcCw else .arcCcw) stop (some centre) (arcLength cw e.start stop centre) p.next

/-- A CALL (R68): depth 15 first, then the target. -/
def takeCall (p : ReadPoint) (target reps : Nat) (dx dy : Int) : Taken :=
  if Config.maxDepth ≤ p.stack.length then .fault .nesting
  else if h : target < 4096 then
    let frame : CallFrame :=
      { ret := p.position + 1, target := ⟨target, h⟩, repeats := if reps = 0 then 256 else reps, index := 0,
        step := ⟨dx, dy⟩, base := p.offset }
    .on { p with position := ⟨target, h⟩, stack := frame :: p.stack }
  else .fault .invalidRecord

/-- `i` times a step. -/
def Point.scale (i : Nat) (p : Point) : Point := ⟨i * p.x, i * p.y⟩

/-- An END (R69). DESIGN CHOICE (log 37): R64 and R69 give the fetch position of DONE for STOP_TAB alone; after
a STOP_END it is the record after the END. -/
def takeEnd (p : ReadPoint) : Taken :=
  match p.stack with
  | [] => .stop false p.next
  | f :: rest =>
    if f.index + 1 < f.repeats then
      .on { p with position := f.target, offset := f.base.add (f.step.scale (f.index + 1)),
                   stack := { f with index := f.index + 1 } :: rest }
    else .on { p with position := f.ret, offset := f.base, stack := rest }

/-- A TAB: the stop of passes 1-3 of a retained part at depth 0, else passed over (R69). -/
def takeTab (e : Emission) (p : ReadPoint) : Taken :=
  if p.stack = [] ∧ e.pass ≠ .separation ∧ e.record.retain then .stop true p.next else .on p.next

/-- A COND (R70). -/
def takeCond (p : ReadPoint) (index : Nat) : Taken :=
  if h : index < 16 then .on { p.next with cond := ⟨index, h⟩ } else .fault .invalidRecord

/-- Take one record (R68 to R71). -/
def takeRecord (e : Emission) (p : ReadPoint) : PathRecord → Taken
  | .empty => .fault .invalidRecord
  | .unassigned => .fault .invalidRecord
  | .line x y => takeLine e p x y
  | .arc cw x y cx cy => takeArc e p cw x y cx cy
  | .call target reps dx dy => takeCall p target reps dx dy
  | .cond index => takeCond p index
  | .tab => takeTab e p
  | .fin => takeEnd p

/-- What a reading ends with: where it stands and the entry to place. -/
structure Placed where
  at_ : ReadPoint
  taken : Taken
  deriving DecidableEq, Repr

/-- Read until one entry is to be placed (R67). The bound is beyond the number of places a reading can be in
without being in one twice, so running out of it is reading for ever (log 17). -/
def readOn (s : State) (e : Emission) : Nat → ReadPoint → Option Placed
  | 0, _ => none
  | n + 1, p =>
    match takeRecord e p (s.record p.position) with
    | .on q => readOn s e n q
    | t => some ⟨p, t⟩

/-- The bound of one emission's reading: 2^12 positions, 2^4 conditions, and up to 15 frames each of one of
2^12 CALL records and 2^8 repetitions. -/
def readBound : Nat := 2 ^ 400

/-- The dry length of a segment (R73). -/
def dryLength (target : Option PathPoint) (pass : Pass) (ordinal length : Nat) : Nat :=
  match target with
  | none => 0
  | some t =>
    if pass.code < t.pass.code then length
    else if pass.code = t.pass.code then
      if ordinal < t.ordinal then length else if ordinal = t.ordinal then min t.progress length else 0
    else 0

/-- The dry target after a segment is placed: absent once its own ordinal has been (R74). -/
def targetAfter (target : Option PathPoint) (pass : Pass) (ordinal : Nat) : Option PathPoint :=
  target.filter fun t => !(t.pass == pass && t.ordinal == ordinal)

/-- The fields a STOP or FAULT entry shares (R72). -/
def endEntry (kind : EntryKind) (part : PartNo) (e : Emission) (cond : CondNo) : Entry :=
  { kind, start := e.start, stop := e.start, centre := none, length := 0, cond, part, pass := e.pass,
    ordinal := e.ordinal, dry := 0 }

/-- Put an entry at the tail and write where the Fetcher stands. -/
def place (entry : Entry) (p : ReadPoint) (st : FetchState) (g : Fetcher → Fetcher) (s : State) : State :=
  (s.setQueue (s.queue ++ [entry])).modFetch fun f =>
    g { f with state := st, position := some p.position, stack := p.stack, offset := p.offset,
               cond := some p.cond }

/-- Place what a reading ended with (R67, R69, R71, R72). -/
def placeTaken (part : PartNo) (e : Emission) (r : Placed) (s : State) : State :=
  match r.taken with
  | .on _ => s
  | .segment kind stop centre length p =>
    let entry : Entry :=
      { kind, start := e.start, stop, centre, length, cond := p.cond, part, pass := e.pass,
        ordinal := e.ordinal, dry := dryLength s.fetch.target e.pass e.ordinal length }
    let st := if s.queue.length + 1 < Config.queueSize then FetchState.running else FetchState.full
    place entry p st (fun f =>
      { f with endPoint := some stop, ordinal := e.ordinal + 1,
               target := targetAfter f.target e.pass e.ordinal }) s
  | .stop tab p =>
    place (endEntry (if tab then .stopTab else .stopEnd) part e p.cond) p .done
      (fun f => { f with target := none }) s
  | .fault cause => place (endEntry (.fault cause) part e r.at_.cond) r.at_ .faulted id s

/-- The part of an emission that does not change while it reads. -/
def State.emission (s : State) (part : PartNo) (pass : Pass) (start : Point) : Emission :=
  { record := s.part part, pass, setup := s.setup, start, ordinal := s.fetch.ordinal }

/-- What an emission of this state reads, with its part and fixed values; none while the Fetcher is not RUNNING
or the queue has no room, and inner none where reading never ends (R64, R67). -/
def State.emit (s : State) : Option (Option State) :=
  if s.fetch.state = .running ∧ s.queue.length < Config.queueSize then
    match s.fetch.part, s.fetch.pass, s.fetch.position, s.fetch.endPoint, s.fetch.cond with
    | some part, some pass, some position, some start, some cond =>
      let e := s.emission part pass start
      let p : ReadPoint := { position, stack := s.fetch.stack, offset := s.fetch.offset, cond }
      some ((readOn s e readBound p).map fun r => placeTaken part e r s)
    | _, _, _, _, _ => none
  else none

end Sys2Proof.Machine
end

