-- ==== Sys2Proof/Machine/Validation.lean ====
section
/-! DEFINITION. The START JOB validation walk (R11 to R14). -/

namespace Sys2Proof.Machine

/-- The four items of a failed walk (R13). -/
structure WalkFailure where
  cause : Cause
  part : Option PartNo
  pass : Option Pass
  record : Option PathIndex
  deriving DecidableEq, Repr

/-- Where a walk stands in one pass contour: the record about to be read, the return indices of the calls it
is in, whether a TAB has been read at depth 0, and the records walked. -/
structure WalkPoint where
  position : PathIndex
  returns : List PathIndex
  tabbed : Bool
  locks : List Nat
  deriving DecidableEq, Repr

/-- Reading at the next record. -/
def WalkPoint.next (w : WalkPoint) : WalkPoint := { w with position := w.position + 1 }

/-- What checking one record gives: a failing cause, the end of the contour, or the walk further on. -/
inductive Checked where
  | fails (c : Cause)
  | ends (locks : List Nat)
  | on (w : WalkPoint)
  deriving DecidableEq, Repr

/-- The entry of a condition index is loaded. -/
def State.isLoaded (s : State) (index : Nat) : Bool :=
  if h : index < 16 then (s.condition ⟨index, h⟩).loaded else false

/-- Checks 6 to 11 of R12 on one record, walked by the reading order of R11. -/
def checkRecord (s : State) (retain : Bool) (w : WalkPoint) : PathRecord → Checked
  | .empty => .fails .invalidRecord
  | .unassigned => .fails .invalidRecord
  | .line _ _ => .on w.next
  | .arc _ _ _ _ _ => .on w.next
  | .cond index =>
    if 16 ≤ index then .fails .invalidRecord
    else if !s.isLoaded index then .fails .conditionUnloaded
    else .on w.next
  | .call target _ _ _ =>
    if h : target < 4096 then
      if 14 < w.returns.length then .fails .nesting
      else .on { w with position := ⟨target, h⟩, returns := (w.position + 1) :: w.returns }
    else .fails .targetRange
  | .tab =>
    if w.returns ≠ [] ∨ w.tabbed then .fails .tabPlacement else .on { w.next with tabbed := true }
  | .fin =>
    match w.returns with
    | [] => if retain ∧ !w.tabbed then .fails .tabMissing else .ends w.locks
    | r :: rest => .on { w with position := r, returns := rest }

/-- Walk one pass contour with a budget of records (R11, check 5 of R12). -/
def walkContour (s : State) (retain : Bool) (fail : Cause → PathIndex → WalkFailure) :
    Nat → WalkPoint → Except WalkFailure (List Nat)
  | 0, w => .error (fail .unterminated w.position)
  | n + 1, w =>
    match checkRecord s retain { w with locks := lockInsert w.position.val w.locks } (s.record w.position) with
    | .fails c => .error (fail c w.position)
    | .ends locks => .ok locks
    | .on w => walkContour s retain fail n w

/-- Checks 3 and 4 of R12, then the contour of one pass. -/
def walkPass (s : State) (p : PartNo) (locks : List Nat) (pass : Pass) : Except WalkFailure (List Nat) :=
  let r := s.part p
  let index := (r.contour.get pass).getD 65535
  if h : index < 4096 then
    if s.isLoaded ((r.initial.get pass).getD 255) then
      walkContour s r.retain (fun c i => ⟨c, some p, some pass, some i⟩) Config.walkBudget
        { position := ⟨index, h⟩, returns := [], tabbed := false, locks }
    else .error ⟨.conditionUnloaded, some p, some pass, none⟩
  else .error ⟨.targetRange, some p, some pass, none⟩

/-- The passes of a part in order. -/
def PartRecord.passes (r : PartRecord) : List Pass :=
  [Pass.first, .second, .third].filter fun p => p.code ≤ r.passCount

/-- One part of the walk: an enabled part's start hole, then its passes (R11). -/
def walkPart (s : State) (locks : List Nat) (p : PartNo) : Except WalkFailure (List Nat) :=
  let r := s.part p
  if !r.enabled then .ok locks
  else if !s.setup.inWindow r.startHole then .error ⟨.startHoleTravel, some p, none, none⟩
  else r.passes.foldlM (walkPass s p) locks

/-- The whole walk: the setup record, then the parts in ascending number; it gives the lock set (R11, R13). -/
def walkJob (s : State) : Except WalkFailure (List Nat) :=
  if !s.setup.present then .error ⟨.noSetup, none, none, none⟩ else allParts.foldlM (walkPart s) []

/-- The payload of INVALID: part, pass, record index and cause, with their absent codes (R13, R183). -/
def WalkFailure.bytes (f : WalkFailure) : List Byte :=
  toBytes 1 ((f.part.map Fin.val).getD 255) ++ toBytes 1 (passCode f.pass) ++
    toBytes 2 ((f.record.map Fin.val).getD 0xFFFF) ++ toBytes 1 f.cause.code

/-- The entry to RUN of a job that passed (R45): counts, latch, RUN, the watches on LIMIT and WIRE_LOW, the
selection point. DESIGN CHOICE (log 39): where LIMIT or WIRE_LOW is asserted and no part is found, R45 has the job
end at once and the station halt; the job ends here, and the mismatch event then finds the station in IDLE. DESIGN
CHOICE (log 42): LIMIT is set before WIRE_LOW, so where both are asserted TRAVEL_LIMIT is the halt code. -/
def enterRun (s : State) : State :=
  let s := s.modSeq fun q =>
    { q with skipCount := 0, dropCount := 0, skipOwed := false, owed := none, station := .run }
  selectionPoint (expect .wireLow .clear (expect .limit .clear s))

end Sys2Proof.Machine
end

