-- ==== Sys2Proof/Machine/Advance.lean ====
section
/-! DEFINITION. The Cut Executor's arithmetic and walks: the step of one capture (R99 to R101), walking
forward (R102, R104, R115, R141), retreating (R111 to R113), and the distances that cap a walk. -/

namespace Sys2Proof.Machine

/-! ### The step -/

/-- n of a capture (R83). -/
def Capture.total (c : Capture) : Nat := c.normal + c.arc + c.short

/-- The step formed from a capture, before R101 limits it. -/
inductive Step where
  | retreat
  | forward (d : Nat)
  deriving DecidableEq, Repr

/-- d0 of test 4 of R99. -/
def feed (fmax vm vref : Nat) : Nat :=
  fmax * min (vm - vref) (Config.openReference - vref) / (Config.openReference - vref)

/-- The tests of R99 in their order, and the scaling of R100. -/
def formStep (c : Capture) (k : Condition) (level : Nat) : Step :=
  let scale := fun d0 => Step.forward (d0 * min level k.lreq / k.lreq)
  if level = 0 then .forward 0
  else if c.total = 0 then scale k.fmax
  else if c.total ≤ 4 * c.short then .retreat
  else if c.mean ≤ k.vref then .forward 0
  else scale (feed k.fmax c.mean k.vref)

/-- A positive step with rd above 0 is doubled and capped at rd (R101, R115). -/
def reAdvance (rd d : Nat) : Nat := if 0 < rd then min (2 * d) rd else d

/-! ### Distances -/

/-- The length of the LINE and ARC entries before the first STOP or FAULT entry, if there is one. -/
def toStop : List Entry → Option Nat
  | [] => none
  | e :: rest => if e.isPath then (toStop rest).map (e.length + ·) else some 0

/-- The length of the LINE and ARC entries the queue holds before a STOP or FAULT entry or its end. -/
def pathAhead : List Entry → Nat
  | [] => 0
  | e :: rest => if e.isPath then e.length + pathAhead rest else 0

/-- The distance from the start of the queue to a point of the path, as far as the queue reaches. -/
def toPoint (t : PathPoint) : List Entry → Nat
  | [] => 0
  | e :: rest =>
    if !e.isPath then 0
    else if e.ordinal < t.ordinal then e.length + toPoint t rest
    else if e.ordinal = t.ordinal then t.progress else 0

/-- The sum of lengths. -/
def lengths (l : List Entry) : Nat := (l.map Entry.length).sum

/-- From the start of the queue to the stop cap: the end of the head while a skip is owed, else the nearest
STOP or FAULT entry (R101). -/
def capFromHead (q : List Entry) (skipOwed : Bool) : Option Nat :=
  if skipOwed then q.head?.map fun e => if e.isPath then e.length else 0 else toStop q

/-- A step capped at the stop cap, measured from the working position (R101). -/
def capStep (s : State) (d : Nat) : Nat :=
  match capFromHead s.queue s.seq.skipOwed with
  | some a => min d (lengths (s.history.take s.exe.cursor) + a - s.exe.progress)
  | none => d

/-! ### Walking forward -/

/-- The kinds of forward walk: cutting (R102, R115), dry (R104), seeking (R141). -/
inductive Gait where
  | cut | dry | seek
  deriving DecidableEq, Repr

/-- How far into an entry a walk may go: a dry walk to its dry length. -/
def Gait.reach (g : Gait) (e : Entry) : Nat :=
  match g with
  | .dry => e.dry
  | .cut | .seek => e.length

/-- The remainder carries from an entry into the next (R102, R104, R115, R141). -/
def Gait.carries (g : Gait) (from_ next : Entry) : Bool :=
  next.isPath &&
    match g with
    | .cut => next.dry == 0 && next.cond == from_.cond
    | .dry => 0 < next.dry
    | .seek => true

/-- Where a walk ends: cursor, progress, the queue it leaves, the entries it completed (most recent first) and
what of the step it did not use. -/
structure Stride where
  cursor : Nat
  progress : Nat
  queue : List Entry
  done : List Entry
  left : Nat
  deriving DecidableEq, Repr

/-- Walk along the queue at cursor 0, with the entries completed so far (R102, R104, R141). -/
def walkQueue (g : Gait) : List Entry → Nat → Nat → List Entry → Stride
  | [], p, d, done => ⟨0, p, [], done, d⟩
  | e :: rest, p, d, done =>
    if !e.isPath then ⟨0, p, e :: rest, done, d⟩
    else if d < g.reach e - p then ⟨0, p + d, e :: rest, done, 0⟩
    else if g.reach e < e.length then ⟨0, max p (g.reach e), e :: rest, done, d - (g.reach e - p)⟩
    else
      let left := d - (g.reach e - p)
      match rest with
      | [] => ⟨0, 0, [], e :: done, left⟩
      | next :: _ => if g.carries e next then walkQueue g rest 0 left (e :: done)
                     else ⟨0, 0, rest, e :: done, left⟩

/-- Walk along the history toward the head, then along the queue (R112, R115, R116). A crossing into position
5 or more fills and ends the walk. -/
def walkHistory (g : Gait) (q hist : List Entry) : Nat → Nat → Nat → Stride
  | 0, p, d => walkQueue g q p d []
  | c + 1, p, d =>
    match hist[c]? with
    | none => ⟨c + 1, p, q, [], d⟩
    | some e =>
      if d < g.reach e - p then ⟨c + 1, p + d, q, [], 0⟩
      else if g.reach e < e.length then ⟨c + 1, max p (g.reach e), q, [], d - (g.reach e - p)⟩
      else
        let left := d - (g.reach e - p)
        let next := match c with
          | 0 => q.head?
          | b + 1 => hist[b]?
        if c ≤ Config.nearSet ∧ (next.map (g.carries e)).getD false then walkHistory g q hist c 0 left
        else ⟨c, 0, q, [], left⟩

/-- The front after a forward walk, while the cursor and rd are 0 (R97). -/
def frontAfter (w : Stride) (front : Option PathPoint) : Option PathPoint :=
  match w.queue, w.done with
  | e :: _, _ => some ⟨e.pass, e.ordinal, w.progress⟩
  | [], e :: _ => some ⟨e.pass, e.ordinal + 1, 0⟩
  | [], [] => front

/-- A Fetcher that was FULL returns to RUNNING when an entry leaves the head (R76). -/
def removalSeen (s : State) : State :=
  s.modFetch fun f => { f with state := if f.state = .full then .running else f.state }

/-- Write the outcome of a forward walk of a step `d` (R97, R102, R109). -/
def applyStride (w : Stride) (d : Nat) (s : State) : State :=
  let rd := s.exe.rd - (d - w.left)
  let s := if w.done = [] then s else removalSeen s
  ((s.setQueue w.queue).setHistory ((w.done ++ s.history).take Config.historySize)).modExe fun e =>
    { e with cursor := w.cursor, progress := w.progress, rd,
             front := if w.cursor = 0 ∧ rd = 0 then frontAfter w e.front else e.front }

/-- Walk forward by a step; a step of 0 leaves the wire where it stands (R101). -/
def walkForward (g : Gait) (d : Nat) (s : State) : State :=
  if d = 0 then s
  else applyStride (walkHistory g s.queue s.history s.exe.cursor s.exe.progress d) d s

/-! ### Retreating -/

/-- Where a retreat ends: cursor, progress, what it did not move, and whether it found no path behind. -/
structure Retreat where
  cursor : Nat
  progress : Nat
  left : Nat
  exhausted : Bool
  deriving DecidableEq, Repr

/-- Walk back by a step, with the history entries behind the working one (R111 to R113). -/
def walkBack : List Entry → Nat → Nat → Nat → Retreat
  | [], c, p, a => if a ≤ p then ⟨c, p - a, 0, false⟩ else ⟨c, 0, a - p, true⟩
  | e :: rest, c, p, a =>
    if a ≤ p then ⟨c, p - a, 0, false⟩
    else if Config.nearSet ≤ c then ⟨c + 1, e.length, a - p, false⟩
    else walkBack rest (c + 1) e.length (a - p)

/-- The allowed retreat step: Rstep, clamped at the front segment's retreat limit (R111). -/
def allowedRetreat (rstep lr rd : Nat) : Nat := min rstep (1000 * lr - rd)

end Sys2Proof.Machine
end

