-- ==== Sys2Proof/Machine/Servo.lean ====
section
/-! DEFINITION. The servo period: the clock, the capture (R83), the motion of the Cut Executor (R98 to R117),
the period report (R86), and the pulse measurement (R81, R82). -/

namespace Sys2Proof.Machine

/-! ### The millisecond (log 5) -/

/-- One ms off a running timer. -/
def tickTimer (t : Option Nat) : Option Nat := t.map (· - 1)

/-- Each timer, the report clock and the peer ages move on by 1 ms, and so does the line's idle time, in us, but
while this station's own frame holds the line (R151, R182). -/
def tick (s : State) : State :=
  let s := s.setNow (s.now + 1)
  let s := s.modSeq fun q => { q with listen := tickTimer q.listen, window := tickTimer q.window }
  let s := s.modThr fun t => { t with timer := tickTimer t.timer, sagBlank := tickTimer t.sagBlank }
  let s := s.modCoord fun c =>
    { c with refresh := tickTimer c.refresh, settle := tickTimer c.settle,
             peers := c.peers.map fun p => p.map fun e => { e with age := e.age + 1 } }
  s.modPort fun p =>
    { p with spacing := tickTimer p.spacing, line := tickTimer p.line,
             idle := if p.tx = .sending then p.idle else p.idle + 1000 }

/-! ### The Gap Monitor -/

/-- A mean voltage: 0 while nothing was tallied (R83). -/
def meanOf (sum tally : Nat) : Nat := (roundDiv sum tally).toNat

/-- The open reading of the period in progress (R83). -/
def GapMonitor.openReading (g : GapMonitor) : Nat := if g.openTally = 0 then 0 else meanOf g.openSum g.openTally

/-- The capture that closes the period in progress (R83). -/
def GapMonitor.capture (g : GapMonitor) : Capture where
  normal := g.normal
  arc := g.arc
  short := g.short
  satNormal := g.satNormal
  satArc := g.satArc
  satShort := g.satShort
  mean := if g.burnTally = 0 then g.openReading else meanOf g.burnSum g.burnTally
  openReading := g.openReading
  mark := g.mark

/-- Close the period; the new one's mark is set if the enable output is asserted at that moment (R83). -/
def closeCapture (s : State) : State :=
  s.modGap fun g => { GapMonitor.poweredOn with mark := s.gen.on, last := g.capture }

/-- The classes of a pulse (R81). -/
inductive Pulse where
  | open_ | short | arc | normal
  deriving DecidableEq, Repr

/-- The class of a measurement, its tests in their order (R81). -/
def classify (delay voltage : Nat) : Pulse :=
  if delay = 255 then .open_ else if voltage < 30 then .short else if delay < 5 then .arc else .normal

/-- A count that stands at 255 stays there. -/
def countUp (n : Nat) : Nat := min (n + 1) 255

/-- A classified measurement in the period in progress (R82). -/
def GapMonitor.record (p : Pulse) (v : Nat) (g : GapMonitor) : GapMonitor :=
  match p with
  | .open_ => { g with openSum := g.openSum + v, openTally := g.openTally + 1 }
  | .short => { g with short := countUp g.short, satShort := g.satShort || 255 ≤ g.short }
  | .arc =>
    { g with arc := countUp g.arc, satArc := g.satArc || 255 ≤ g.arc,
             burnSum := g.burnSum + v, burnTally := g.burnTally + 1 }
  | .normal =>
    { g with normal := countUp g.normal, satNormal := g.satNormal || 255 ≤ g.normal,
             burnSum := g.burnSum + v, burnTally := g.burnTally + 1 }

/-! ### The arc guard and the station total -/

/-- The arc condition of R93. -/
def Capture.arcing (c : Capture) : Bool := 0 < c.total && c.total ≤ 8 * c.arc

/-- The arc guard and the station total on a capture whose mark is set (R93, R94). -/
def guardTaken (c : Capture) (s : State) : State :=
  if c.mark then
    s.modGen fun g =>
      let g := { g with total := min (g.total + 1) 4294967295 }
      if c.arcing then { g with stretch := min (g.stretch + 1) 3, arcFree := 0 }
      else if g.arcFree < 15 then { g with arcFree := g.arcFree + 1 }
      else { g with stretch := g.stretch - 1, arcFree := 0 }
  else s

/-! ### The motion -/

/-- What the motion of an expiry hands to the Station Sequencer after the period report (log 11). -/
inductive HandOver where
  | arrival
  | boundary
  | stop (tab : Bool) (at_ : Point) (cond : CondNo)
  | fault (cause : FetchFault)
  | broken (c : BreakCondition)
  | target
  deriving DecidableEq, Repr

/-- The task becomes NONE. -/
def endTask (s : State) : State := s.modExe fun e => { e with task := .off }

/-- The move's advance (R108). -/
def advanceMove (s : State) : State × Option HandOver :=
  match s.exe.move with
  | none => (s, none)
  | some m =>
    let progress := min (m.progress + s.setup.rapid) m.length
    let s := s.modExe fun e =>
      { e with move := some { m with progress }, position := linePoint m.start m.target m.length progress }
    if progress = m.length then (endTask s, some .arrival) else (s, none)

/-- The working position's setpoints: a point of the working segment, or the end of the last segment
completed (R97, R106, R107, R179). A point of an arc outside the signed 32-bit range is kept as it is (DESIGN
CHOICE, log 38). -/
def writeSetpoints (s : State) : State :=
  match s.workingSegment, s.history with
  | some e, _ => s.modExe fun x => { x with position := e.pointAt x.progress }
  | none, e :: _ => if s.exe.cursor = 0 then s.modExe fun x => { x with position := e.stop } else s
  | none, [] => s

/-- A STOP or FAULT entry at the head is taken: the stop is removed, the fault stays (R103). -/
def takeHead (s : State) : State × Option HandOver :=
  match s.queue with
  | e :: rest =>
    if s.exe.cursor = 0 then
      let leave := fun tab =>
        let s := removalSeen ((endTask s).setQueue rest)
        (s.modExe fun x => { x with front := some ⟨e.pass, e.ordinal, 0⟩, seek := none },
          some (HandOver.stop tab e.stop e.cond))
      match e.kind with
      | .stopTab => leave true
      | .stopEnd => leave false
      | .fault c => ((endTask s).modExe fun x => { x with seek := none }, some (.fault c))
      | .line | .arcCw | .arcCcw => (s, none)
    else (s, none)
  | [] => (s, none)

/-- The end of a forward walk begun in `before`: the boundary of a pending skip, else the entry reached
(R51, R52, R103). -/
def afterWalk (before s : State) : State × Option HandOver :=
  if s.seq.skipOwed ∧ s.queue.length < before.queue.length then (endTask s, some .boundary) else takeHead s

/-- The working position is dry: a working segment is present and the progress is below its dry length
(R97). -/
def State.workingDry (s : State) : Option Bool := s.workingSegment.map fun e => s.exe.progress < e.dry

/-- A retreat demand (R111 to R114). -/
def retreatTaken (k : Condition) (s : State) : State × Option HandOver :=
  let lr := (s.condition ((s.queue.head?.map Entry.cond).getD 0)).lr
  let a := allowedRetreat k.rstep lr s.exe.rd
  let w := walkBack (s.history.drop s.exe.cursor) s.exe.cursor s.exe.progress a
  let stuck := if a < k.rstep then min (s.exe.stuck + 1) Config.stuckLimit else s.exe.stuck
  let s := s.modExe fun e =>
    { e with cursor := w.cursor, progress := w.progress, rd := e.rd + (a - w.left), stuck }
  if w.exhausted then (endTask s, some (.broken .retreatExhausted))
  else if a < k.rstep ∧ stuck = Config.stuckLimit then (endTask s, some (.broken .stuckShort))
  else (s, none)

/-- The stuck count becomes 0 (R114). -/
def clearStuck (s : State) : State := s.modExe fun e => { e with stuck := 0 }

/-- An expiry that forms a step (case 6 of R98). -/
def cutStep (e : Entry) (s : State) : State × Option HandOver :=
  let k := s.condition e.cond
  match formStep s.gap.last k s.gen.level with
  | .retreat => retreatTaken k s
  | .forward d =>
    let d := capStep s (reAdvance s.exe.rd d)
    afterWalk s (clearStuck (walkForward .cut d s))

/-- A dry walk (R104, R116). -/
def dryWalk (s : State) : State × Option HandOver :=
  let d := capStep s (if 0 < s.exe.rd then min s.setup.dry s.exe.rd else s.setup.dry)
  afterWalk s (clearStuck (walkForward .dry d s))

/-- A seek walk (R141): as far as the queue holds, the seek point and the stop cap let it; no setpoints. -/
def seekWalk (point : PathPoint) (s : State) : State × Option HandOver :=
  let ahead := min (pathAhead s.queue) (toPoint point s.queue) - s.exe.progress
  let t := clearStuck (walkForward .seek (capStep s ahead) s)
  let reached := (t.exe.front.map fun f => !f.before point).getD false
  let t := if reached then setStep .replay (t.modExe fun e => { e with seek := none }) else t
  afterWalk s t

/-- Target point reached: activity RECOVERING, no seek in hand, a working segment present and cut (R105,
R141). -/
def targetCheck (r : State × Option HandOver) : State × Option HandOver :=
  match r.2 with
  | some _ => r
  | none =>
    if r.1.seq.activity = some .recovering ∧ r.1.exe.seek = none ∧ r.1.workingDry = some false then
      (r.1, some .target)
    else r

/-- The motion of an expiry along the path with no seek in hand: cases 3 to 7 of R98. -/
def walkPath (s : State) : State × Option HandOver :=
  match s.workingSegment with
  | none => takeHead s
  | some e =>
    if s.exe.progress < e.dry then dryWalk s
    else if isCutting s.seq.activity then cutStep e s
    else (s, none)

/-- The motion of an expiry along the path, with its setpoints. -/
def advancePath (s : State) : State × Option HandOver :=
  match s.exe.seek with
  | some point => targetCheck (seekWalk point s)
  | none =>
    let r := walkPath s
    let moved := r.1.exe.cursor ≠ s.exe.cursor ∨ r.1.exe.progress ≠ s.exe.progress ∨
      r.1.queue.length < s.queue.length
    targetCheck (if moved then writeSetpoints r.1 else r.1, r.2)

/-- The motion of an expiry, by the cases of R98; a held station does not move (R117). -/
def motion (s : State) : State × Option HandOver :=
  if s.seq.station = .held then (s, none)
  else
    match s.exe.task with
    | .off => (s, none)
    | .move => advanceMove s
    | .path => advancePath s

/-! ### After the motion -/

/-- The front of the current work moves the part's progress forward (R27; log 12). -/
def PartRecord.progressed (front : Option PathPoint) (r : PartRecord) : PartRecord :=
  match front, r.progress with
  | some f, some p => if p.before f then { r with progress := some f } else r
  | some f, none => { r with progress := some f }
  | none, _ => r

/-- Progress and erosion time of the part being worked, at every expiry, HELD or not (R27, R94, R117). -/
def creditPart (current mark : Bool) (s : State) : State :=
  match s.workingPart with
  | none => s
  | some p =>
    modPart p (fun r =>
      let r := if current then r.progressed s.exe.front else r
      if mark then { r with erosion := min (r.erosion + 1) 4294967295 } else r) s

/-- The period report: the working segment's condition and dry state, L_target, and the raise of L (R86, R87,
R89, R92). -/
def periodReport (s : State) : State :=
  let seg := s.workingSegment
  let dry := s.workingDry
  let s := s.modGen fun g =>
    { g with cond := match seg with
                     | some e => some e.cond
                     | none => g.cond
             dry }
  switchGenerator (raiseLevel (recomputeLevels (dropCondition s)))

/-- The Sequencer takes what the motion handed over. -/
def handOver (h : Option HandOver) (s : State) : State :=
  match h with
  | none => s
  | some .arrival => moveArrived s
  | some .boundary => actSkip true s
  | some (.stop tab at_ cond) => stopTaken tab at_ cond s
  | some (.fault c) => faultTaken c s
  | some (.broken c) => breakTaken c s
  | some .target => targetReached s

/-- The front is the front of the current part's work: the task is PATH, or a pass of the part has been started
and the part is still current (log 12). -/
def State.frontIsCurrent (s : State) : Bool := s.exe.task == .path || s.seq.passStart.isSome

/-- One servo period expiry (R98). -/
def servoExpiry (s : State) : State :=
  let t := closeCapture (tick s)
  let c := t.gap.last
  let r := motion (guardTaken c t)
  finish s (handOver r.2 (periodReport (creditPart s.frontIsCurrent c.mark r.1)))

end Sys2Proof.Machine
end

