-- ==== Sys2Proof/Machine/Power.lean ====
section
/-! DEFINITION. The commands of power and of the station: POWER_ON, LISTEN_TIMER_EXPIRY, POWER_WARN and RESET
STATION (R16, R41, R60 to R62, R177). -/

namespace Sys2Proof.Machine

/-- What every command answers: the model's outcomes over the part's state. -/
abbrev Result := Host.Outcome State Fault Refusal

/-! ### Power-on -/

/-- Every block after power-on, with retained memory as it stands (R1, R16, R20, R40, R95, R172, R178). -/
def restart (straps : Straps) (s : State) : State :=
  { State.poweredOn straps with
    store := s.store
    conds := s.conds
    nest := s.nest
    setup := s.setup
    seq := { Sequencer.poweredOn with mark := s.seq.mark }
    exe := Executor.poweredOn s.exe.position
    pending := s.pending }

/-- A present power-down mark is reported and made absent (R61). -/
def reportMark (s : State) : State :=
  match s.seq.mark with
  | none => s
  | some m =>
    (queueReport .powerDown m.part none (m.station.code + 256 * activityCode m.activity) s).modSeq
      fun q => { q with mark := none }

/-- POWER_ON (R41): straps, mark, interruptions (R16), the allowances of an empty table (R161). -/
def execPowerOn (station : Fin 8) (power flush : Fin 16) (s : State) : Result :=
  .next (recomputeAllowances (interruptFound .power (reportMark (restart ⟨station, power, flush⟩ s))))

/-! ### The listen timer -/

/-- LISTEN_TIMER_EXPIRY (R41). -/
def execListenTimerExpiry (s : State) : Result :=
  .next <|
    if s.seq.station = .listen ∧ s.seq.listen.isSome then
      finish s ((enterIdle s).modSeq fun q => { q with listen := none })
    else s

/-! ### POWER_WARN -/

/-- The Cell Line Port on entry to POWER_DOWN: a frame in transmission is abandoned, one notice is due and
waits for no spacing, and the timers stop (R60, R157). -/
def portPowerDown (s : State) : State :=
  let s := s.modPort fun p =>
    { p with tx := .ready, due := true, frame := none, spacing := none, line := none,
             idle := if p.frame.isSome then 0 else p.idle }
  s.modCoord fun c => { c with refresh := none }

/-- The entry to POWER_DOWN, in the order of R60. -/
def enterPowerDown (s : State) : State :=
  let left := s.seq
  let hit := s.workingPart
  let s := (closeWindow (stopThreader (flush s))).setWalking false
  let s := interruptCurrent .power s
  let s := (dropCurrent s).modSeq fun q =>
    { q with mark := some ⟨hit, left.station, left.activity⟩, station := .powerDown, activity := none,
             owed := none, listen := none }
  portPowerDown (derive s)

/-- POWER_WARN: taken in LISTEN, IDLE, RUN and HELD (R60, R136). -/
def execPowerWarn (s : State) : Result :=
  .next <|
    match s.seq.station with
    | .listen | .idle | .run | .held => enterPowerDown s
    | .halted | .powerDown => s

/-! ### RESET STATION -/

/-- Follow the Threader-owned inputs (R131). -/
def followThreaderInputs (s : State) : State := follow .tensionOk (followWireInputs s)

/-- A Port in SILENT enters READY with a notice due, and its line timer starts (R154, R157). -/
def wakePort (s : State) : State :=
  s.modPort fun p =>
    if p.tx = .silent then { p with tx := .ready, due := true, line := some Config.lineTime } else p

/-- The effects of RESET STATION, in the order of R62. -/
def resetStation (s : State) : State :=
  let s := interruptFound .reset s
  let s := (((s.setQueue []).setHistory []).modFetch fun _ => Fetcher.flushed).modExe fun e =>
    Executor.poweredOn e.position
  let s := s.modGen fun g => { Generator.poweredOn with total := g.total }
  let s := followThreaderInputs (s.modThr fun _ => Threader.poweredOn)
  let s := s.modCoord fun c => { c with jet := .off, stamp := 0, settle := none, completed := false }
  let s := s.modSeq fun q =>
    { Sequencer.poweredOn with station := .idle, listen := none, dropCount := q.dropCount, mark := q.mark }
  wakePort (followLimits (s.setLocks []))

/-- RESET STATION: refused in LISTEN, taken in IDLE, RUN, HELD and HALTED (R62, R171, R177). -/
def execResetStation (s : State) : Result :=
  .next <|
    match s.taking with
    | some .resetStation =>
      if s.seq.station = .listen then answer .refusedState [] s else finish s (answer .ok [] (resetStation s))
    | _ => s

end Sys2Proof.Machine
end

