-- ==== Sys2Proof/Machine/Cell.lean ====
section
/-! DEFINITION. The commands of the Cell Line Port and the Coordination Unit (R150 to R167). -/

namespace Sys2Proof.Machine

/-! ### Transmission -/

/-- The idle time the Port waits for, us, where it waits for one (R152). -/
def State.idleNeeded (s : State) : Option Nat :=
  match s.port.tx with
  | .ready => some Config.readyIdle
  | .backoff => some ((s.straps.station.val + 1) * Config.backoffStep)
  | .quiet | .sending | .silent => none

/-- A transmission may start at this idle time (R152). -/
def State.mayStart (s : State) (idle : Nat) : Bool :=
  s.port.spacing.isNone && (s.idleNeeded.map fun n => decide (n ≤ idle)).getD false

/-- The Port starts a transmission of the notice of this moment (R152, R155). The line is active from then on:
its idle time is 0 (R182). -/
def startFrame (s : State) : State :=
  s.modPort fun p => { p with tx := .sending, due := false, frame := some s.notice, idle := 0 }

/-- TRANSMIT_START, with the idle time in us (R152; log 7). -/
def execTransmitStart (idle : Nat) (s : State) : Result :=
  .next <|
    if s.mayStart idle then
      if s.seq.station = .powerDown then startFrame s else finish s (startFrame s)
    else s

/-- Steps 1 to 3 of a completion: D, F, the spacing and refresh timers, C_max and the settle timer (R153, R162,
R164). -/
def completeFrame (n : Notice) (s : State) : State :=
  let s := s.modPort fun p => { p with frame := none, spacing := some Config.spacingTime, idle := 0 }
  let s := s.modCoord fun c => { c with drawn := n.draw, refresh := some Config.refreshTime }
  if n.jet = .off then s
  else
    (seeStamp n.stamp s).modCoord fun c =>
      if c.jet = .pending ∧ !c.completed ∧ c.stamp = n.stamp then
        { c with completed := true, settle := some Config.settleTime }
      else c

/-- The return from degraded to normal line mode: its report, and the allowances in their normal form (R154). -/
def returnLine (s : State) : State :=
  if s.coord.mode = .degraded then
    recomputeAllowances ((queueReport .lineRestored none none s.port.collisions s).modCoord fun c =>
      { c with mode := .normal })
  else s

/-- Step 4: degraded line mode ends, and a waiting claim is tested (R153, R154). -/
def restoreLine (s : State) : State :=
  if s.coord.mode = .degraded then grantTest (derive (returnLine s)) else s

/-- Steps 5 to 8: the collision count, the line timer, the due mark against D, READY or QUIET (R153). -/
def endSending (s : State) : State :=
  let due := s.port.due || s.gen.draw != s.coord.drawn
  s.modPort fun p =>
    { p with collisions := 0, due, tx := if due then .ready else .quiet,
             line := if due then some Config.lineTime else none }

/-- In POWER_DOWN the one transmission ends and the Port takes nothing further (R60, R157; log 26). -/
def endLastFrame (s : State) : State :=
  s.modPort fun p => { p with tx := .quiet, due := false, frame := none, idle := 0 }

/-- The completion of the one transmission of POWER_DOWN: D, normal line mode and the collision count as in every
completion (steps 1, 4 and 5 of R153). No timer is started, for none runs there (R60; log 26). -/
def completeLastFrame (n : Notice) (s : State) : State :=
  let s := returnLine (s.modCoord fun c => { c with drawn := n.draw })
  endLastFrame (s.modPort fun p => { p with collisions := 0 })

/-- TRANSMISSION_COMPLETE (R153). -/
def execTransmissionComplete (s : State) : Result :=
  .next <|
    match s.port.tx, s.port.frame with
    | .sending, some n =>
      if s.seq.station = .powerDown then completeLastFrame n s
      else finish s (endSending (restoreLine (completeFrame n s)))
    | _, _ => s

/-- A collision's count (R153). -/
def countCollision (s : State) : State :=
  s.modPort fun p => { p with collisions := min (p.collisions + 1) 65535, frame := none, idle := 0 }

/-- COLLISION (R153). -/
def execCollision (s : State) : Result :=
  .next <|
    if s.port.tx = .sending then
      if s.seq.station = .powerDown then endLastFrame (countCollision s)
      else finish s ((countCollision s).modPort fun p => { p with due := true, tx := .backoff })
    else s

/-! ### Arrivals -/

/-- Activity on the line has ended: the idle time is 0 (R151). In POWER_DOWN the idle time runs until the one
transmission has ended, and no longer (R60, R157). -/
def lineActivity (s : State) : State :=
  if s.seq.station = .powerDown ∧ s.port.tx = .quiet then s else s.modPort fun p => { p with idle := 0 }

/-- Write a station's entry in the peer table. -/
def setPeer (n : StationNo) (e : Option Peer) (s : State) : State :=
  s.modCoord fun c => { c with peers := c.peers.set n e }

/-- The entry a notice makes (R158). -/
def Notice.entry (n : Notice) : Peer :=
  { age := 0, phase := n.phase, draw := n.draw, flush := n.flush, heavy := n.heavy, jet := n.jet, stamp := n.stamp }

/-- C_max from a notice that carries CLAIM or HOLD (R162). -/
def seeNotice (n : Notice) (s : State) : State := if n.jet = .off then s else seeStamp n.stamp s

/-- A peer's HOLD from a fresh peer whose claim precedes the own claim (R167). -/
def State.yieldsTo (s : State) (peer : StationNo) (n : Notice) : Bool :=
  s.coord.jet == .holding && n.jet == .hold && n.phase != .halted &&
    claimPrecedes n.stamp peer.val s.coord.stamp s.straps.station.val

/-- The conflict rule (R167). -/
def conflictTest (peer : StationNo) (n : Notice) (s : State) : State :=
  if s.yieldsTo peer n then jetConflict peer s else s

/-- A peer's notice, in the order of R158. -/
def peerNotice (peer : StationNo) (n : Notice) (s : State) : State :=
  let s := if (s.peer peer).isNone then queueReport .peerFound none none peer.val s else s
  conflictTest peer n (grantTest (derive (seeNotice n (setPeer peer (some n.entry) s))))

/-- The station states in which DUPLICATE_STATION is taken (R53). -/
def Station.takesDuplicate : Station → Bool
  | .listen | .idle | .run | .held => true
  | .halted | .powerDown => false

/-- A notice with this station's own number (R160). -/
def ownNumberNotice (n : Notice) (s : State) : State :=
  let s := seeNotice n s
  if s.seq.station.takesDuplicate then haltStation .duplicateStation s else s

/-- The bytes are the read-back of the own notice (R151). -/
def State.readsBack (s : State) (frame : List Byte) : Bool :=
  s.port.tx == .sending && (s.port.frame.map fun n => decide (n.bytes = frame)).getD false

/-- NOTICE_ARRIVAL. The read-back of the own notice is no arrival, an invalid frame is discarded, and in
POWER_DOWN none is received; each of the last two is activity on the line (R151, R158, R160). -/
def execNoticeArrival (frame : List Byte) (s : State) : Result :=
  .next <|
    if s.readsBack frame then s
    else if s.seq.station = .powerDown then lineActivity s
    else
      match noticeOf frame with
      | none => lineActivity s
      | some n =>
        if n.station = s.straps.station.val then finish s (ownNumberNotice n (lineActivity s))
        else finish s (peerNotice (Fin.ofNat 8 n.station) n (lineActivity s))

/-- CELL_FRAME_DISCARD: a fragment, a bad check or a code not assigned; only the idle time is set (R151). -/
def execCellFrameDiscard (s : State) : Result :=
  .next (lineActivity s)

/-! ### Timers -/

/-- SPACING_TIMER_EXPIRY (R152). -/
def execSpacingTimerExpiry (s : State) : Result :=
  .next (if s.seq.station = .powerDown then s else s.modPort fun p => { p with spacing := none })

/-- The entry to degraded line mode; a second expiry in it reports nothing (R154; log 25). -/
def enterDegraded (s : State) : State :=
  if s.coord.mode = .degraded then s
  else queueReport .lineFault none none s.port.collisions (s.modCoord fun c => { c with mode := .degraded })

/-- LINE_TIMER_EXPIRY (R154). -/
def execLineTimerExpiry (s : State) : Result :=
  .next <|
    if s.port.line.isSome then finish s (enterDegraded (s.modPort fun p => { p with line := none })) else s

/-- REFRESH_TIMER_EXPIRY (R156). -/
def execRefreshTimerExpiry (s : State) : Result :=
  .next <|
    if s.coord.refresh.isSome then setDue (s.modCoord fun c => { c with refresh := none }) else s

/-- PEER_EXPIRY of one station's entry (R159). -/
def execPeerExpiry (station : Fin 8) (s : State) : Result :=
  .next <|
    if (s.peer station).isSome ∧ s.seq.station ≠ .powerDown then
      finish s (grantTest (derive (queueReport .peerLost none none station.val (setPeer station none s))))
    else s

/-- SETTLE_TIMER_EXPIRY: PENDING passes to WAITING and the grant test runs (R164). -/
def execSettleTimerExpiry (s : State) : Result :=
  .next <|
    if s.coord.settle.isSome ∧ s.coord.jet = .pending then
      finish s (grantTest (s.modCoord fun c => { c with jet := .waiting, settle := none }))
    else s

end Sys2Proof.Machine
end

