-- ==== Sys2Proof/Machine/Inputs.lean ====
section
/-! DEFINITION. The sensor inputs (R31, R54, R122, R124, R126, R127, R133 to R135) and the drop window's expiry
(R33). -/

namespace Sys2Proof.Machine

/-- DROP_INPUT_CHANGE (R31). -/
def execDropInputChange (first second : Level) (s : State) : Result := .next (sampleInput .drop first second s)

/-- LIMIT_INPUT (R54). -/
def execLimitInput (first second : Level) (s : State) : Result := .next (sampleInput .limit first second s)

/-- WIRE_LOW_INPUT (R54). -/
def execWireLowInput (first second : Level) (s : State) : Result := .next (sampleInput .wireLow first second s)

/-- CUTTER_DONE (R122, R132). -/
def execCutterDone (first second : Level) (s : State) : Result := .next (sampleInput .cutterDone first second s)

/-- SUPPLY_SAG (R124). -/
def execSupplySag (first second : Level) (s : State) : Result := .next (sampleInput .supplySag first second s)

/-- CONTACT (R126). -/
def execContact (first second : Level) (s : State) : Result := .next (sampleInput .contact first second s)

/-- TENSION_OK_CHANGE (R127, R133). -/
def execTensionOkChange (first second : Level) (s : State) : Result :=
  .next (sampleInput .tensionOk first second s)

/-- The part whose drop window is open. -/
def State.windowPart (s : State) : Option PartNo :=
  if s.seq.window.isSome then
    s.workingPart.filter fun p => (s.part p).state == .separating && (s.part p).stage == .window
  else none

/-- DROP_WINDOW_EXPIRY (R33). -/
def execDropWindowExpiry (s : State) : Result :=
  .next <|
    match s.windowPart with
    | some p => finish s (windowExpired p s)
    | none => s

end Sys2Proof.Machine
end

