-- ==== Sys2Proof/Machine/Jobs.lean ====
section
/-! DEFINITION. The job-control requests (R45 to R51) and the end of the validation walk (R13, R14). -/

namespace Sys2Proof.Machine

/-- START JOB: in IDLE the validation walk begins; its response waits for the walk's end (R11, R45, R170). -/
def execStartJob (s : State) : Result :=
  .next <|
    match s.taking with
    | some .startJob => jobGate [.idle] (fun s => s.setWalking true) s
    | _ => s

/-- VALIDATION_WALK_END: INVALID with the failure, or the lock set, OK and the entry to RUN (R13, R45). -/
def execValidationWalkEnd (s : State) : Result :=
  .next <|
    if s.walking ∧ s.seq.station = .idle then
      let t := s.setWalking false
      match walkJob s with
      | .error f => answer .invalid f.bytes t
      | .ok locks => finish s (enterRun (answer .ok [] (t.setLocks locks)))
    else s

/-- HOLD in RUN (R46, R130). -/
def enterHeld (s : State) : State := holdThread (s.modSeq fun q => { q with station := .held })

/-- HOLD: enters HELD in RUN, changes nothing in HELD (R46). -/
def execHold (s : State) : Result :=
  .next <|
    match s.taking with
    | some .hold =>
      jobGate [.run, .held] (fun s =>
        if s.seq.station = .run then finish s (answer .ok [] (enterHeld s)) else answer .ok [] s) s
    | _ => s

/-- Do an owed step at RESUME (R47). A break taken in HELD is a WIRE_BREAK, since no step is formed there. -/
def doOwed (o : OwedStep) (s : State) : State :=
  match o with
  | .recovery => beginRecovery .wireBreak s
  | .routeStep => routeAfterCut s
  | .wireCut => requestCut false (setActivity .wireCutting s)
  | .tensionCut => requestCut true (setActivity .wireCutting s)
  | .select => selectionPoint s

/-- A thread in hand at RESUME: the pending skip is acted in its place, a held thread starts again at CUT_TIP,
and a stroke still running goes on (R48, R130; log 21). -/
def resumeThread (s : State) : State :=
  if s.thr.request = .thread ∧ s.seq.skipOwed then actSkip true s
  else if s.thr.held then enterCutTip (s.modThr fun t => { t with held := false })
  else s

/-- RESUME in HELD (R47, R48). -/
def leaveHeld (s : State) : State :=
  let owed := s.seq.owed
  let s := s.modSeq fun q => { q with station := .run, owed := none }
  match owed with
  | some o => doOwed o s
  | none => resumeThread s

/-- RESUME (R48). -/
def execResume (s : State) : Result :=
  .next <|
    match s.taking with
    | some .resume => jobGate [.held] (fun s => finish s (answer .ok [] (leaveHeld s))) s
    | _ => s

/-- ABORT's effects, in the order of R49. -/
def abortJob (s : State) : State := enterIdle (interruptCurrent .abort (closeWindow (stopThreader (flush s))))

/-- ABORT (R49). -/
def execAbort (s : State) : Result :=
  .next <|
    match s.taking with
    | some .abort => jobGate [.run, .held] (fun s => finish s (answer .ok [] (abortJob s))) s
    | _ => s

/-- SKIP PART of a part that is not current (R50). -/
def skipOther (p : PartNo) (s : State) : State :=
  match (s.part p).state with
  | .uncut | .interrupted | .tabbed => answer .ok [] (finishPart p .skipped (some .host) s)
  | .released | .hung | .skipped | .active | .separating => answer .refusedState [] s

/-- SKIP PART of the current part: skip owed, or the skip at once in DROP_WATCH (R51). -/
def skipCurrent (s : State) : State :=
  if s.seq.activity = some .dropWatch then finish s (answer .ok [] (actSkip true s))
  else answer .ok [] (s.modSeq fun q => { q with skipOwed := true })

/-- SKIP PART (R50, R51). -/
def execSkipPart (s : State) : Result :=
  .next <|
    match s.taking with
    | some (.skipPart number) =>
      jobGate [.idle, .run, .held] (fun s =>
        if h : number < 32 then
          if s.seq.current = some ⟨number, h⟩ then skipCurrent s else skipOther ⟨number, h⟩ s
        else answer .refusedRange [] s) s
    | _ => s

end Sys2Proof.Machine
end

