-- ==== Sys2Proof/Machine/Link.lean ====
section
/-! DEFINITION. The commands of the Job Link Port (R169 to R171). -/

namespace Sys2Proof.Machine

/-- The Port hunts for a start byte, as it does between frames and after every discard (R169; log 10). -/
def hunt (s : State) : State :=
  if s.seq.station = .powerDown then s else s.modLink fun l => { l with hunting := true }

/-- A request arrival: a free slot, or the overflow flag (R170). -/
def bufferRequest (r : Request) (s : State) : State :=
  s.modLink fun l =>
    if l.buffer.length < 2 then { l with buffer := l.buffer ++ [r] } else { l with overflow := true }

/-- REQUEST_ARRIVAL: a frame received whole. A bad one is discarded without effect (R169, R170). -/
def execRequestArrival (frame : List Byte) (s : State) : Result :=
  .next <|
    match requestOf frame with
    | some r => if s.seq.station = .powerDown then s else bufferRequest r s
    | none => hunt s

/-- JOB_LINK_FRAME_DISCARD: a frame with a bad length or check (R169). -/
def execJobLinkFrameDiscard (s : State) : Result := .next (hunt s)

/-- JOB_LINK_BYTE_TIMEOUT: more than 2 ms between two bytes of a frame (R169). -/
def execJobLinkByteTimeout (s : State) : Result := .next (hunt s)

/-- RESPONSE_SENT: the last byte of the response has been sent and the slot is freed (R170). -/
def execResponseSent (s : State) : Result :=
  .next <|
    if s.link.response.isSome ∧ s.seq.station ≠ .powerDown then
      s.modLink fun l => { l with response := none, buffer := l.buffer.tail }
    else s

/-- UNKNOWN_REQUEST: a code not assigned, or a payload whose length does not match the form (R171). -/
def execUnknownRequest (s : State) : Result :=
  .next <|
    match s.taking with
    | some .unknown => answer .unknown [] s
    | _ => s

end Sys2Proof.Machine
end

