-- ==== Sys2Proof/Machine/Loads.lean ====
section
/-! DEFINITION. The loads: SETUP (R172), LOAD CONDITION (R20), LOAD PATH (R9), LOAD PART (R19) and CLEAR STORE
(R21). -/

namespace Sys2Proof.Machine

/-- The ranges of SETUP (R172). -/
def Setup.inBounds (r : Setup) : Bool :=
  1 ≤ r.rapid && r.rapid ≤ 200000 && 1 ≤ r.dry && r.dry ≤ 50000 && 500 ≤ r.dropTime && r.dropTime ≤ 20000 &&
    r.xLow ≤ r.xHigh && r.yLow ≤ r.yHigh

/-- SETUP (R172). -/
def execSetup (s : State) : Result :=
  .next <|
    match s.taking with
    | some (.setup r) =>
      jobGate [.idle] (fun s => if r.inBounds then answer .ok [] (s.setSetup r) else answer .refusedRange [] s) s
    | _ => s

/-- The ranges of a condition entry (R20). -/
def Condition.inBounds (c : Condition) : Bool :=
  20 ≤ c.vref && c.vref ≤ 200 && 1 ≤ c.fmax && c.fmax ≤ 4095 && 1 ≤ c.lreq && c.lreq ≤ 15 &&
    1 ≤ c.freq && c.freq ≤ 15 && 1 ≤ c.rstep && c.rstep ≤ 1023 && 1 ≤ c.lr && c.lr ≤ 2000 &&
    2 ≤ c.offBase && c.offBase ≤ 200

/-- LOAD CONDITION (R20). -/
def execLoadCondition (s : State) : Result :=
  .next <|
    match s.taking with
    | some (.loadCondition index c) =>
      jobGate [.idle] (fun s =>
        if h : index < 16 then
          if c.inBounds then answer .ok [] (s.setConds (s.conds.set index c)) else answer .refusedRange [] s
        else answer .refusedRange [] s) s
    | _ => s

/-- The indices a LOAD PATH would write. -/
def loadTargets (start n : Nat) : List Nat := (List.range n).map (start + ·)

/-- Write records from an index on (R9). -/
def writeRecords (start : Nat) (rs : List (List Byte)) (s : State) : State :=
  s.setStore (storeWriteAll s.store (start * Config.recordBytes) rs.flatten)

/-- LOAD PATH: its checks in the order of R9. -/
def execLoadPath (s : State) : Result :=
  .next <|
    match s.taking with
    | some (.loadPath start rs) =>
      jobGate [.listen, .idle, .run, .held] (fun s =>
        if rs.length = 0 ∨ 16 < rs.length ∨ 4096 < start + rs.length then answer .refusedRange [] s
        else if s.seq.station ≠ .idle ∧ (loadTargets start rs.length).any (· ∈ s.locks) then
          answer .refusedLocked [] s
        else answer .ok [] (writeRecords start rs s)) s
    | _ => s

/-- The ranges LOAD PART checks besides the part number (R19). -/
def PartRecord.inBounds (r : PartRecord) : Bool :=
  1 ≤ r.passCount && r.passCount ≤ 3 && 1 ≤ r.threadLimit && r.threadLimit ≤ 7 &&
    1 ≤ r.breakLimit && r.breakLimit ≤ 15

/-- LOAD PART (R19). -/
def execLoadPart (s : State) : Result :=
  .next <|
    match s.taking with
    | some (.loadPart number r) =>
      jobGate [.idle] (fun s =>
        if h : number < 32 then
          if r.inBounds then answer .ok [] (modPart ⟨number, h⟩ (fun _ => r) s) else answer .refusedRange [] s
        else answer .refusedRange [] s) s
    | _ => s

/-- The retained tables as CLEAR STORE leaves them (R1, R21). -/
def clearTables (s : State) : State :=
  ((s.setStore []).setConds (Vector.replicate 16 Condition.cleared)).modNest
    fun _ => Vector.replicate 32 PartRecord.cleared

/-- CLEAR STORE (R21). -/
def execClearStore (s : State) : Result :=
  .next <|
    match s.taking with
    | some .clearStore => jobGate [.idle] (fun s => answer .ok [] (clearTables s)) s
    | _ => s

end Sys2Proof.Machine
end

