-- ==== Sys2Proof/Machine/Period.lean ====
section
/-! DEFINITION. SERVO_PERIOD_EXPIRY (R98), PULSE_MEASUREMENT (R81, R82) and EMISSION (R67). -/

namespace Sys2Proof.Machine

/-- SERVO_PERIOD_EXPIRY (R98). The servo period does not expire in POWER_DOWN (R80). -/
def execServoPeriodExpiry (s : State) : Result :=
  .next (if s.seq.station = .powerDown then s else servoExpiry s)

/-- PULSE_MEASUREMENT: the low byte is the ignition delay, the high byte the voltage; not read in POWER_DOWN
(R81, R82, R180). -/
def execPulseMeasurement (delay voltage : Byte) (s : State) : Result :=
  .next <|
    if s.seq.station = .powerDown then s
    else s.modGap (GapMonitor.record (classify delay.toNat voltage.toNat) voltage.toNat)

/-- EMISSION: one entry is placed while the Fetcher is RUNNING (R67); a reading that never ends faults
(log 17). -/
def execEmission (s : State) : Result :=
  match s.emit with
  | some (some t) => .next t
  | some none => .fault .emissionNeverEnds
  | none => .next s

end Sys2Proof.Machine
end

