-- ==== Sys2Proof/Machine/Reads.lean ====
section
/-! DEFINITION. The read requests (R173, R174, R176). -/

namespace Sys2Proof.Machine

/-- The current part's current pass (R173). -/
def State.currentPass (s : State) : Option Pass := s.seq.current.bind fun p => (s.part p).pass

/-- The items of READ STATUS in the order of R173's table, in the forms of R183. -/
def statusBytes (s : State) : List Byte :=
  toBytes 1 s.seq.station.code ++ toBytes 1 (activityCode s.seq.activity) ++
    toBytes 1 ((s.seq.current.map Fin.val).getD 255) ++ toBytes 1 (passCode s.currentPass) ++
    intBytes s.exe.position.x ++ intBytes s.exe.position.y ++
    toBytes 1 s.gen.level ++ toBytes 1 s.gen.target ++ toBytes 1 s.coord.drawn ++
    toBytes 1 s.coord.ap ++ toBytes 1 s.coord.af ++
    toBytes 1 s.coord.jet.code ++ toBytes 2 s.coord.stamp ++
    [flagByte (s.coord.mode == .degraded)] ++ toBytes 1 (causeCode (s.seq.halt.map HaltCode.cause)) ++
    toBytes 1 s.reports.items.length ++ [flagByte s.link.overflow] ++
    toBytes 1 s.seq.dropCount ++ toBytes 1 s.seq.skipCount ++ s.gap.last.bytes

/-- READ STATUS: the snapshot, then the overflow flag is cleared (R173). -/
def execReadStatus (s : State) : Result :=
  .next <|
    match s.taking with
    | some .readStatus => (answer .ok (statusBytes s) s).modLink fun l => { l with overflow := false }
    | _ => s

/-- READ PART (R174). -/
def execReadPart (s : State) : Result :=
  .next <|
    match s.taking with
    | some (.readPart number) =>
      if h : number < 32 then
        let r := s.part ⟨number, h⟩
        answer .ok (toBytes 1 number ++ r.hostBlock ++ r.deviceBlock number s.now) s
      else answer .refusedRange [] s
    | _ => s

/-- The entries of stations 0-7, then C_max and its seen flag (R174, R183). The entry of this station's own
number is returned as not present. -/
def peersBytes (s : State) : List Byte :=
  ((List.finRange 8).map fun n => peerBytes (if n = s.straps.station then none else s.peer n)).flatten ++
    toBytes 2 s.coord.cmax ++ [flagByte s.coord.cmaxSeen]

/-- READ PEERS (R174). -/
def execReadPeers (s : State) : Result :=
  .next <|
    match s.taking with
    | some .readPeers => answer .ok (peersBytes s) s
    | _ => s

/-- The payload of READ REPORTS (R176, R183). -/
def reportsBytes (q : ReportQueue) : List Byte :=
  let out := q.items.take 8
  toBytes 1 out.length ++ (out.map Report.bytes).flatten ++ toBytes 2 q.lost

/-- READ REPORTS: up to 8 reports leave, oldest first, and the lost count is cleared (R176). -/
def execReadReports (s : State) : Result :=
  .next <|
    match s.taking with
    | some .readReports =>
      (answer .ok (reportsBytes s.reports) s).modReports fun q => { items := q.items.drop 8, lost := 0 }
    | _ => s

end Sys2Proof.Machine
end

