-- ==== Sys2Proof/Machine/Timers.lean ====
section
/-! DEFINITION. The expiries of Threader Control's timers (R122, R124 to R127, R132). -/

namespace Sys2Proof.Machine

/-- The phase timer runs for this phase. -/
def State.phaseTimed (s : State) (p : Phase) : Bool := s.thr.phase == p && s.thr.timer.isSome

/-- CUT_TIP_TIMEOUT (R122). -/
def execCutTipTimeout (s : State) : Result := .next (if s.phaseTimed .cutTip then finish s (cutterFault s) else s)

/-- The sag blank ends and the sag watch begins (R124). -/
def sagWatch (s : State) : State := expect .supplySag .clear (s.modThr fun t => { t with sagBlank := none })

/-- SAG_BLANK_EXPIRY (R124). -/
def execSagBlankExpiry (s : State) : Result :=
  .next (if s.thr.phase = .anneal ∧ s.thr.sagBlank.isSome then finish s (sagWatch s) else s)

/-- ANNEAL_EXPIRY (R124). -/
def execAnnealExpiry (s : State) : Result := .next (if s.phaseTimed .anneal then finish s (annealEnded s) else s)

/-- JET_WAIT_LIMIT_EXPIRY (R125). -/
def execJetWaitLimitExpiry (s : State) : Result :=
  .next (if s.phaseTimed .jetClaim then finish s (attemptFailed .jetWait s) else s)

/-- FEED_TIMEOUT (R126). -/
def execFeedTimeout (s : State) : Result :=
  .next (if s.phaseTimed .feed then finish s (attemptFailed .noContact s) else s)

/-- TENSION_TIMEOUT (R127). -/
def execTensionTimeout (s : State) : Result :=
  .next (if s.phaseTimed .tension then finish s (attemptFailed .noTension s) else s)

/-- A cut request waits out its tension check (R132). -/
def State.checkingTension (s : State) : Bool :=
  s.thr.request == .cut && s.thr.tensionCheck && s.thr.phase != .cutTip && s.thr.timer.isSome

/-- TENSION_CHECK_EXPIRY: the cut's CUT_TIP begins (R132). -/
def execTensionCheckExpiry (s : State) : Result := .next (if s.checkingTension then finish s (enterCutTip s) else s)

end Sys2Proof.Machine
end

