-- ==== Sys2Proof/Machine/Dispatch.lean ====
section
/-! DEFINITION. The meaning of each command, one arm per constructor of `Instr`. -/

namespace Sys2Proof.Machine

def exec (i : Instr) (s : State) : Host.Outcome State Fault Refusal :=
  match i with
  | .powerOn station power flush => Sys2Proof.Machine.execPowerOn station power flush s
  | .listenTimerExpiry => Sys2Proof.Machine.execListenTimerExpiry s
  | .powerWarn => Sys2Proof.Machine.execPowerWarn s
  | .requestArrival frame => Sys2Proof.Machine.execRequestArrival frame s
  | .jobLinkFrameDiscard => Sys2Proof.Machine.execJobLinkFrameDiscard s
  | .jobLinkByteTimeout => Sys2Proof.Machine.execJobLinkByteTimeout s
  | .responseSent => Sys2Proof.Machine.execResponseSent s
  | .unknownRequest => Sys2Proof.Machine.execUnknownRequest s
  | .setup => Sys2Proof.Machine.execSetup s
  | .loadCondition => Sys2Proof.Machine.execLoadCondition s
  | .loadPath => Sys2Proof.Machine.execLoadPath s
  | .loadPart => Sys2Proof.Machine.execLoadPart s
  | .clearStore => Sys2Proof.Machine.execClearStore s
  | .startJob => Sys2Proof.Machine.execStartJob s
  | .validationWalkEnd => Sys2Proof.Machine.execValidationWalkEnd s
  | .hold => Sys2Proof.Machine.execHold s
  | .resume => Sys2Proof.Machine.execResume s
  | .abort => Sys2Proof.Machine.execAbort s
  | .skipPart => Sys2Proof.Machine.execSkipPart s
  | .readStatus => Sys2Proof.Machine.execReadStatus s
  | .readPart => Sys2Proof.Machine.execReadPart s
  | .readPeers => Sys2Proof.Machine.execReadPeers s
  | .readReports => Sys2Proof.Machine.execReadReports s
  | .resetStation => Sys2Proof.Machine.execResetStation s
  | .servoPeriodExpiry => Sys2Proof.Machine.execServoPeriodExpiry s
  | .pulseMeasurement delay voltage => Sys2Proof.Machine.execPulseMeasurement delay voltage s
  | .emission => Sys2Proof.Machine.execEmission s
  | .dropInputChange first second => Sys2Proof.Machine.execDropInputChange first second s
  | .dropWindowExpiry => Sys2Proof.Machine.execDropWindowExpiry s
  | .limitInput first second => Sys2Proof.Machine.execLimitInput first second s
  | .wireLowInput first second => Sys2Proof.Machine.execWireLowInput first second s
  | .cutterDone first second => Sys2Proof.Machine.execCutterDone first second s
  | .cutTipTimeout => Sys2Proof.Machine.execCutTipTimeout s
  | .sagBlankExpiry => Sys2Proof.Machine.execSagBlankExpiry s
  | .annealExpiry => Sys2Proof.Machine.execAnnealExpiry s
  | .supplySag first second => Sys2Proof.Machine.execSupplySag first second s
  | .jetWaitLimitExpiry => Sys2Proof.Machine.execJetWaitLimitExpiry s
  | .contact first second => Sys2Proof.Machine.execContact first second s
  | .feedTimeout => Sys2Proof.Machine.execFeedTimeout s
  | .tensionOkChange first second => Sys2Proof.Machine.execTensionOkChange first second s
  | .tensionTimeout => Sys2Proof.Machine.execTensionTimeout s
  | .tensionCheckExpiry => Sys2Proof.Machine.execTensionCheckExpiry s
  | .transmitStart idle => Sys2Proof.Machine.execTransmitStart idle s
  | .transmissionComplete => Sys2Proof.Machine.execTransmissionComplete s
  | .collision => Sys2Proof.Machine.execCollision s
  | .noticeArrival frame => Sys2Proof.Machine.execNoticeArrival frame s
  | .cellFrameDiscard => Sys2Proof.Machine.execCellFrameDiscard s
  | .spacingTimerExpiry => Sys2Proof.Machine.execSpacingTimerExpiry s
  | .lineTimerExpiry => Sys2Proof.Machine.execLineTimerExpiry s
  | .refreshTimerExpiry => Sys2Proof.Machine.execRefreshTimerExpiry s
  | .peerExpiry station => Sys2Proof.Machine.execPeerExpiry station s
  | .settleTimerExpiry => Sys2Proof.Machine.execSettleTimerExpiry s

end Sys2Proof.Machine
end

