-- ==== Sys2Proof/Machine/Step.lean ====
section
/-! DEFINITION. One step: the command at the front of the queue (log 6, 32). -/

namespace Sys2Proof.Machine

/-- Take the command at the front of the queue and run it with the queue's rest; an empty queue idles
(log 6). -/
def step (s : State) : Host.Outcome State Fault Refusal :=
  match s.pending with
  | [] => .next s
  | i :: rest => exec i (s.setPending rest)

/-- The state with the command that a table word spells put at the front of its queue; unchanged where it spells
none. -/
def State.withFetchWord (s : State) (nbits w : Nat) : State :=
  match decodeTableWord nbits w with
  | some i => s.setPending (i :: s.pending)
  | none => s

end Sys2Proof.Machine
end

