-- ==== Sys2Proof/Machine/Outputs.lean ====
section
/-! DEFINITION. The output lines of R179, each in its form. They follow the state: an output changes in the event in
which its driver's field changes, and both setpoint words change together. -/

namespace Sys2Proof.Machine

/-- What the part drives on its output lines (R179). -/
structure Outputs where
  xSetpoint : BitVec 32
  ySetpoint : BitVec 32
  enable : Bool
  level : BitVec 4
  offTime : BitVec 11
  flush : BitVec 4
  valve : Bool
  anneal : Bool
  feed : Bool
  cutter : Bool
  tension : Bool
  deriving DecidableEq, Repr

/-- The output lines in a state: the Cut Executor's position, one signed word per axis, Generator Control's four
outputs and Threader Control's five (R179). A coordinate outside the word carries its low 32 bits (log 38). -/
def State.outputs (s : State) : Outputs where
  xSetpoint := signedWord s.exe.position.x
  ySetpoint := signedWord s.exe.position.y
  enable := s.gen.on
  level := BitVec.ofNat 4 s.levelOutput
  offTime := BitVec.ofNat 11 s.gen.offTime
  flush := BitVec.ofNat 4 s.gen.flush
  valve := s.thr.valve
  anneal := s.thr.anneal
  feed := s.thr.feed
  cutter := s.thr.cutter
  tension := s.thr.tension

end Sys2Proof.Machine
end

