-- ==== Sys2Proof/Safety.lean ====
section
/-! DEFINITION. What counts as a safe state and a safe run: the limits that the spec states of every state of
the part, in the terms the statements use, and what the end of every event leaves. -/

namespace Sys2Proof.Machine

/-- The generator's level is no higher than the draw target, and that this station has announced it: L is at
most D, and at most the draw of a notice in transmission (R89, R90). -/
def State.underCeiling (s : State) : Prop :=
  s.gen.level ≤ s.gen.draw ∧ s.gen.level ≤ s.coord.drawn ∧ ∀ n, s.port.frame = some n → s.gen.level ≤ n.draw

/-- The generator is on only with a THREADED wire, an activity that cuts, a working segment that is not dry,
a station that is not HELD, and a level of 1 or more (R92). -/
def State.generatorSafe (s : State) : Prop :=
  s.gen.on = true →
    s.thr.wire = .threaded ∧ (s.seq.activity = some .cutting ∨ s.seq.activity = some .separating) ∧
      s.gen.dry = some false ∧ s.seq.station ≠ .held ∧ 1 ≤ s.gen.level

/-- The phases of a thread attempt after its CUT_TIP. -/
def Phase.attempting : Phase → Bool
  | .annealWait | .anneal | .jetClaim | .feed | .tension => true
  | .idle | .cutTip | .done => false

/-- Each output line of Threader Control is on in its own phase only (R120, R122, R124, R126), an attempt has
its request, a held thread waits in IDLE (R130), and the jet is asked for in JET_CLAIM and held with the valve
open in FEED (R125, R126, R166). -/
def State.threaderSafe (s : State) : Prop :=
  (s.thr.cutter = true → s.thr.phase = .cutTip) ∧ (s.thr.anneal = true → s.thr.phase = .anneal) ∧
    (s.thr.valve = true → s.thr.phase = .feed ∧ s.coord.jet = .holding) ∧
    (s.thr.feed = true → s.thr.phase = .feed) ∧
    (s.thr.phase.attempting = true → s.thr.request = .thread) ∧
    (s.thr.phase = .cutTip → s.thr.request ≠ .off) ∧
    (s.thr.held = true → s.thr.phase = .idle ∧ s.thr.request = .thread) ∧
    (s.coord.jet ≠ .off → s.thr.phase = .jetClaim ∨ s.thr.phase = .feed)

/-- A halted station at rest: no request in Threader Control, no task, no window, no claim, no current part, no
walk (R58). -/
def State.haltedAtRest (s : State) : Prop :=
  s.seq.station = .halted ∧ s.seq.current = none ∧ s.seq.window = none ∧ s.walking = false ∧
    s.thr.request = .off ∧ (s.thr.phase = .idle ∨ s.thr.phase = .done) ∧ s.thr.held = false ∧
    s.exe.task = .off ∧ s.coord.jet = .off

/-- A station in POWER_DOWN at rest: no timer runs and no unit works but the Cell Line Port (R60). -/
def State.downAtRest (s : State) : Prop :=
  s.seq.station = .powerDown ∧ s.seq.window = none ∧ s.seq.listen = none ∧ s.walking = false ∧
    s.thr.timer = none ∧ s.thr.sagBlank = none ∧ s.fetch.state = .idle ∧ s.port.line = none ∧
    s.coord.refresh = none ∧ s.coord.settle = none

/-- The queues keep the sizes of R75, R109, R170 and R175. -/
def State.bounded (s : State) : Prop :=
  s.queue.length ≤ Config.queueSize ∧ s.history.length ≤ Config.historySize ∧
    s.link.buffer.length ≤ 2 ∧ s.reports.items.length ≤ Config.reportSize

/-- The Path Store keeps its canonical form. -/
def State.storeWf (s : State) : Prop := Store.wf s.store = true

/-- Every value that follows from others stands as its rule gives it: the allowances (R161), L_target with L at
most that (R87, R88), the draw target (R90), the flush setpoint (R91), the enable output (R92), the off-time
(R93), and no condition in use where none may be (R86). -/
def State.settled (s : State) : Prop :=
  s.coord.ap = s.powerAllowance ∧ s.coord.af = s.flushAllowance ∧
    s.gen.target = s.levelTarget ∧ s.gen.level ≤ s.gen.target ∧ s.gen.draw = s.drawTarget ∧
    s.gen.flush = s.flushTarget ∧ s.gen.on = s.generatorAllowed ∧ s.gen.offTime = s.offTimeOutput ∧
    (s.gen.cond ≠ none ∨ s.gen.dry ≠ none →
      (s.seq.station = .run ∨ s.seq.station = .held) ∧
        (isCutting s.seq.activity = true ∨ s.seq.activity = some .recovering))

/-- What an event that began in `before` ends with, where its own effect left `u`: the values that follow from
others are as their rules give them, L has at most fallen to L_target, the asserted enable output has marked
the period, the own notice is due if what it would say has changed since `before` (R156), and all else stands
as `u` has it. -/
def State.settles (before u t : State) : Prop :=
  t = { u with gen := t.gen, gap := t.gap, coord := t.coord, port := t.port } ∧
    t.settled ∧
    t.gen = { u.gen with level := min u.gen.level t.gen.target, target := t.gen.target, cond := t.gen.cond,
                         dry := t.gen.dry, on := t.gen.on, draw := t.gen.draw, flush := t.gen.flush,
                         offTime := t.gen.offTime } ∧
    (t.gen.cond = u.gen.cond ∨ t.gen.cond = none) ∧ (t.gen.dry = u.gen.dry ∨ t.gen.dry = none) ∧
    t.gap = { u.gap with mark := u.gap.mark || t.gen.on } ∧
    t.coord = { u.coord with ap := t.coord.ap, af := t.coord.af } ∧
    t.port = if noticeChanged before t then (setDue u).port else u.port

/-- No mismatch event waits and Threader Control is not in ANNEAL_WAIT, so the end of an event adds nothing of
its own to what the event did. -/
def State.calm (s : State) : Prop := s.raised = [] ∧ s.thr.phase ≠ .annealWait

/-- Two part records agree in their host-set fields (R17). -/
def PartRecord.sameHostFields (a b : PartRecord) : Prop :=
  a.enabled = b.enabled ∧ a.origin = b.origin ∧ a.startHole = b.startHole ∧ a.passCount = b.passCount ∧
    a.contour = b.contour ∧ a.initial = b.initial ∧ a.retain = b.retain ∧ a.slotAllowed = b.slotAllowed ∧
    a.threadLimit = b.threadLimit ∧ a.breakLimit = b.breakLimit

/-! ### What a stop of the work leaves, block by block -/

/-- The response in transmission (R171). -/
def State.answering (s : State) (r : Request) (st : Status) (payload : List Byte) : JobLink :=
  { s.link with response := some ⟨r.code, st, payload⟩ }

/-- Threader Control after a stop; the wire, the tension and the counts stand (R131). -/
def Threader.stopped (t : Threader) : Threader :=
  { t with request := .off, phase := .idle, held := false, tensionCheck := false, cutter := false,
           anneal := false, valve := false, feed := false, timer := none, sagBlank := none }

/-- The Cut Executor after a flush; position and front stand (R96). -/
def Executor.cleared (e : Executor) : Executor :=
  { e with task := .off, cursor := 0, progress := 0, rd := 0, stuck := 0, move := none, seek := none }

/-- The own claim released (R166). -/
def Coordination.released (c : Coordination) : Coordination :=
  if c.jet = .off then c else { c with jet := .off, settle := none, completed := false }

/-- An input that is followed (R135). -/
def Filter.followed (f : Filter) : Filter := { f with expected := f.level }

/-- CONTACT, SUPPLY_SAG and CUTTER_DONE followed (R131). -/
def Filters.wireFollowed (f : Filters) : Filters :=
  { f with contact := f.contact.followed, supplySag := f.supplySag.followed,
           cutterDone := f.cutterDone.followed }

/-- LIMIT and WIRE_LOW followed (R54). -/
def Filters.limitsFollowed (f : Filters) : Filters :=
  { f with limit := f.limit.followed, wireLow := f.wireLow.followed }

/-- A station that has left its work: no activity, current part, latch, recovery record or window. -/
def Sequencer.ended (q : Sequencer) (st : Station) : Sequencer :=
  { q with station := st, activity := none, current := none, skipOwed := false, owed := none,
           window := none, route := .off, step := none, rethread := none, passStart := none }

/-- The work stopped for a reason: the path flushed, Threader Control stopped, the jet released, and the
current part, if it was being worked, INTERRUPTED and reported (R37, R49, R58, R60). -/
def State.workStopped (reason : Cause) (s : State) : State :=
  { s with
    queue := [], history := [], fetch := Fetcher.flushed, exe := s.exe.cleared, thr := s.thr.stopped
    filters := s.filters.wireFollowed, coord := s.coord.released
    nest := (interruptCurrent reason s).nest, reports := (interruptCurrent reason s).reports }

/-- The station halted, before what follows from it is recomputed (R58). -/
def State.afterHalt (code : HaltCode) (s : State) : State :=
  { s.workStopped .halt with
    seq := { s.seq.ended .halted with halt := some code, listen := none }
    filters := s.filters.wireFollowed.limitsFollowed
    reports := (queueReport .halt s.workingPart (some code.cause)
      (s.seq.station.code + 256 * activityCode s.seq.activity) (interruptCurrent .halt s)).reports }

/-- Threader Control in CUT_TIP, the cutter fired (R122). -/
def Threader.cutting (t : Threader) : Threader :=
  { t with wire := .unthreaded, tension := false, cutter := true, phase := .cutTip,
           timer := some Config.cutTipTime, sagBlank := none }

/-- CUTTER_DONE is watched and TENSION_OK followed, as in CUT_TIP (R122). -/
def Filters.cutTip (f : Filters) : Filters :=
  { f with tensionOk := f.tensionOk.followed, cutterDone := { f.cutterDone with expected := .clear } }

/-- The command that gives an input two consecutive samples. -/
def Input.samples : Input → Level → Level → Instr
  | .contact => .contact
  | .tensionOk => .tensionOkChange
  | .cutterDone => .cutterDone
  | .supplySag => .supplySag
  | .drop => .dropInputChange
  | .wireLow => .wireLowInput
  | .limit => .limitInput

/-- The filters with one input's filter in place. -/
def State.withFilter (s : State) (i : Input) (f : Filter) : Filters := s.filters.put f i

/-- An input clear and awaited clear, and an input asserted in two samples: the event a watch waits for. -/
def Filter.idleClear (f : Filter) : Prop := f.level = .clear ∧ f.expected = .clear

/-- The filter after two samples of one level, with an expected level. -/
def Filter.steady (l expected : Level) : Filter := ⟨l, some l, expected⟩

/-- One millisecond off a timer. -/
def lessOne (t : Option Nat) : Option Nat := t.map (· - 1)

/-- The Sequencer and Threader Control one millisecond on, with all timers running. -/
def Sequencer.aged (q : Sequencer) : Sequencer := { q with listen := lessOne q.listen, window := lessOne q.window }

/-- Threader Control one millisecond on. -/
def Threader.aged (t : Threader) : Threader := { t with timer := lessOne t.timer, sagBlank := lessOne t.sagBlank }

/-- A failed attempt with attempts left: counted, reported, the jet released, and CUT_TIP entered for the next
(R128). -/
def State.afterRetry (f : ThreadFailure) (s : State) : State :=
  { s with
    thr := { s.thr.cutting with anneal := false, valve := false, feed := false, attempts := s.thr.attempts + 1 }
    filters := s.filters.wireFollowed.cutTip, coord := s.coord.released
    reports := (queueReport .threadFail s.seq.current (some f.cause)
      ((s.thr.mode.map Mode.code).getD 0 + 256 * (s.thr.attempts + 1)) s).reports }

/-- The last attempt of an UNCUT part's first thread failed: the part SKIPPED with THREAD_LIMIT, the path
flushed, the consecutive-skip count raised, and the wire cut begun (R38, R39, R128). -/
def State.afterLastAttempt (f : ThreadFailure) (p : PartNo) (s : State) : State :=
  let failed := queueReport .threadFail s.seq.current (some f.cause)
    ((s.thr.mode.map Mode.code).getD 0 + 256 * (s.thr.attempts + 1)) s
  let skipped := finishPart p .skipped (some .threadLimit) failed
  { s with
    queue := [], history := [], fetch := Fetcher.flushed, exe := s.exe.cleared
    nest := skipped.nest, reports := skipped.reports
    seq := { s.seq.ended .run with
             activity := some .wireCutting, owed := s.seq.owed, window := s.seq.window
             skipCount := s.seq.skipCount + 1 }
    thr := { s.thr.cutting with
             request := .cut, tensionCheck := false, anneal := false, valve := false, feed := false
             attempts := s.thr.attempts + 1 }
    filters := s.filters.wireFollowed.cutTip, coord := s.coord.released }

/-! ### What a servo period and a pass leave of the part and of the blocks -/

/-- The later of two path points in pass order, where the first may be absent (R18, R27). -/
def PathPoint.later (front : Option PathPoint) (progress : Option PathPoint) : Option PathPoint :=
  match front, progress with
  | some f, some p => if p.before f then some f else some p
  | some f, none => some f
  | none, p => p

/-- A part record after a servo period that ended with this front: the part being worked has its progress moved
forward to the front, while the front is the front of its work, and 1 ms of erosion time for a marked period
(R27, R94; log 12). Every other part stands. -/
def State.credited (s : State) (front : Option PathPoint) (q : PartNo) : PartRecord :=
  if s.workingPart = some q then
    { s.part q with
      progress := if s.exe.task = .path ∨ s.seq.passStart.isSome then PathPoint.later front (s.part q).progress
                  else (s.part q).progress
      erosion := if s.gap.mark = true then min ((s.part q).erosion + 1) 4294967295 else (s.part q).erosion }
  else s.part q

/-- The wire cut of a cut request with no tension check, asked for at once (R132). -/
def Threader.severing (t : Threader) : Threader := { t.cutting with request := .cut, tensionCheck := false }

/-- A thread request taken: its first attempt's CUT_TIP (R121, R122). -/
def Threader.threading (t : Threader) (m : Mode) (limit : Nat) : Threader :=
  { t.cutting with request := .thread, mode := some m, limit := some limit, attempts := 0, held := false }

/-- The thread completed: the wire THREADED and nothing in hand (R127). -/
def Threader.threaded (t : Threader) : Threader :=
  { t with timer := none, wire := .threaded, phase := .done, request := .off }

/-- A wire break at Threader Control (R133). -/
def Threader.broken (t : Threader) : Threader :=
  { t with wire := .unthreaded, tension := false, phase := if t.phase = .done then .idle else t.phase }

/-- The Cut Executor at the start of a pass (R96); the position stands. -/
def Executor.atStart (e : Executor) (pass : Pass) (seek : Option PathPoint) : Executor :=
  { e with task := .path, cursor := 0, progress := 0, front := some ⟨pass, 0, 0⟩, rd := 0, stuck := 0
           move := none, seek := seek }

/-- The Cut Executor with a move begun (R108). -/
def Executor.bound (e : Executor) (target : Point) : Executor :=
  { e with task := .move, move := some ⟨e.position, target, lineLength e.position target, 0⟩ }

/-- A recovery record at its initial values, but for the pass start point (R137, R146; log 29). -/
def Sequencer.noRecovery (q : Sequencer) : Sequencer := { q with route := .off, step := none, rethread := none }

/-- The order of R23 in which a part record is taken up: 1 INTERRUPTED with stage NONE, 2 UNCUT, 3 INTERRUPTED
with stage CUT or WINDOW, 4 TABBED, and none for a record that is not taken up. -/
def PartRecord.rank (r : PartRecord) : Option Nat :=
  match r.state, r.stage with
  | .interrupted, .off => some 1
  | .uncut, _ => some 2
  | .interrupted, .cut | .interrupted, .window => some 3
  | .tabbed, _ => some 4
  | .active, _ | .separating, _ | .released, _ | .hung, _ | .skipped, _ => none

/-- The part a selection point takes: enabled and to be taken up, with no enabled part of a lower rank, and none
of its rank with a lower number (R23). -/
def State.selects (s : State) (p : PartNo) : Prop :=
  (s.part p).enabled = true ∧ ∃ k ∈ (s.part p).rank,
    ∀ q, (s.part q).enabled = true → ∀ j ∈ (s.part q).rank, k < j ∨ (k = j ∧ p ≤ q)

/-- The record indices that a walk reads on to from the record at `i` (R11): a CALL leads to its target and, when
that contour has ended, to the record after the CALL. -/
def State.readNext (s : State) (i : PathIndex) : List Nat :=
  match s.record i with
  | .line _ _ | .arc _ _ _ _ _ | .cond _ | .tab => [(i + 1).val]
  | .call target _ _ _ => [target, (i + 1).val]
  | .empty | .fin | .unassigned => []

/-- A walk reads on from the record at `i` to the record at `j`. -/
def State.leadsTo (s : State) (i j : PathIndex) : Prop := j.val ∈ s.readNext i

/-- A run of commands that stops at no fault. -/
def safeRun (n : Nat) (s : State) : Prop := ∃ t, Host.Core.run Sys2Proof.core n s = .next t

end Sys2Proof.Machine
end

