-- ==== Sys2Proof/Certificates/Slice0/Obligations.lean ====
section
/-! DEFINITION. The statements for the provers. `State.settles`, `State.settled` and the block shapes they use
are defined in Safety.lean. -/

open Sys2Proof Sys2Proof.Machine

/-! ### The queue of commands and the whole machine -/

/-- A step takes the command at the front of the queue and runs it on the state with the queue's rest, and
an empty queue idles (log 6). It rests on the model's choices of log 6, 32. -/
def Obligations.StepRunsFrontCommand : Prop :=
  (∀ (s : State) (c : Instr) (rest : List Instr),
    s.pending = c :: rest → step s = exec c (s.setPending rest)) ∧
  ∀ s : State, s.pending = [] → step s = .next s

/-- No command touches the queue, none is refused, and every command but EMISSION answers a next state. It
rests on the model's choices of log 6, 17. -/
def Obligations.CommandsLeaveQueueAndComplete : Prop :=
  (∀ (c : Instr) (s t : State), exec c s = .next t → t.pending = s.pending) ∧
  (∀ (c : Instr) (s : State) (r : Refusal), exec c s ≠ .refused r) ∧
  ∀ (c : Instr) (s : State), c ≠ .emission → ∃ t, exec c s = .next t

/-- What reset leaves where the spec gives the value (R1, R10, R36, R40, R41, R63, R75, R80, R85, R95, R109,
R31, R54, R61, R119, R120, R134, R135, R137, R150, R157, R158, R161, R162, R169, R170, R175, R179). It rests on
the model's choices of log 1, and of log 2 for the position at the setpoint outputs. -/
def Obligations.ResetLeavesPowerOnValues : Prop :=
  let s := State.reset
  (∀ i, s.record i = .empty) ∧ s.setup.present = false ∧ s.locks = [] ∧
  (s.seq.station = .listen ∧ s.seq.listen = some 250 ∧ s.seq.activity = none ∧ s.seq.current = none ∧
    s.seq.halt = none ∧ s.seq.skipOwed = false ∧ s.seq.owed = none ∧ s.seq.skipCount = 0 ∧
    s.seq.dropCount = 0 ∧ s.seq.window = none ∧ s.seq.route = .off ∧ s.seq.step = none ∧
    s.seq.rethread = none ∧ s.seq.passStart = none ∧ s.seq.mark = none) ∧
  (s.fetch.state = .idle ∧ s.fetch.part = none ∧ s.fetch.pass = none ∧ s.fetch.position = none ∧
    s.fetch.stack = [] ∧ s.fetch.offset = ⟨0, 0⟩ ∧ s.fetch.endPoint = none ∧ s.fetch.cond = none ∧
    s.fetch.target = none ∧ s.fetch.ordinal = 0) ∧
  s.queue = [] ∧ s.history = [] ∧
  (s.gap.normal = 0 ∧ s.gap.arc = 0 ∧ s.gap.short = 0 ∧ s.gap.satNormal = false ∧ s.gap.satArc = false ∧
    s.gap.satShort = false ∧ s.gap.burnSum = 0 ∧ s.gap.burnTally = 0 ∧ s.gap.openSum = 0 ∧
    s.gap.openTally = 0 ∧ s.gap.mark = false ∧ s.gap.last = ⟨0, 0, 0, false, false, false, 0, 0, false⟩) ∧
  (s.gen.level = 0 ∧ s.gen.target = 0 ∧ s.gen.cond = none ∧ s.gen.dry = none ∧ s.gen.stretch = 0 ∧
    s.gen.arcFree = 0 ∧ s.gen.on = false ∧ s.gen.draw = 0 ∧ s.gen.flush = 0 ∧ s.gen.offTime = 200 ∧
    s.gen.total = 0) ∧
  (s.exe.task = .off ∧ s.exe.cursor = 0 ∧ s.exe.progress = 0 ∧ s.exe.front = none ∧ s.exe.rd = 0 ∧
    s.exe.stuck = 0 ∧ s.exe.move = none ∧ s.exe.seek = none) ∧
  (s.thr.request = .off ∧ s.thr.phase = .idle ∧ s.thr.mode = none ∧ s.thr.attempts = 0 ∧
    s.thr.limit = none ∧ s.thr.held = false ∧ s.thr.tensionCheck = false ∧ s.thr.timer = none ∧
    s.thr.sagBlank = none ∧ s.thr.wire = .unthreaded ∧ s.thr.cutter = false ∧ s.thr.anneal = false ∧
    s.thr.valve = false ∧ s.thr.feed = false ∧ s.thr.tension = false) ∧
  (∀ i, (s.filters.get i).level = .clear ∧ (s.filters.get i).last = none ∧
    (s.filters.get i).expected = .clear) ∧
  (∀ n, s.peer n = none) ∧ s.coord.drawn = 0 ∧ s.coord.jet = .off ∧ s.coord.mode = .normal ∧
  s.coord.cmax = 0 ∧ s.coord.cmaxSeen = false ∧ s.coord.refresh = none ∧ s.coord.stamp = 0 ∧
  s.coord.settle = none ∧ s.coord.completed = false ∧
  s.coord.ap = min 15 (budget s.straps.power) ∧ s.coord.af = min 15 (budget s.straps.flush) ∧
  (s.port.tx = .ready ∧ s.port.due = true ∧ s.port.frame = none ∧ s.port.idle = 0 ∧
    s.port.spacing = none ∧ s.port.line = some 20 ∧ s.port.collisions = 0) ∧
  s.link.hunting = true ∧ s.link.buffer = [] ∧ s.link.overflow = false ∧ s.link.response = none ∧
  s.reports.items = [] ∧ s.reports.lost = 0 ∧
  s.outputs = ⟨0, 0, false, 0, 200, 0, false, false, false, false, false⟩

/-- The invariants that a step keeps from reset hold there: those of O5 to O8, and the absent own entry of the
peer table of O59 (R158). It rests on the model's choices of log 1. -/
def Obligations.ResetMeetsInvariants : Prop :=
  State.reset.storeWf ∧ State.reset.settled ∧ State.reset.underCeiling ∧ State.reset.bounded ∧
    State.reset.threaderSafe ∧ State.reset.peer State.reset.straps.station = none

/-- The Path Store keeps its canonical form in every step. The Segment Queue, the Retreat History, the
request buffer and the Report Queue keep their sizes (R75, R109, R170, R175). -/
def Obligations.StepKeepsStoreAndQueueSizes : Prop :=
 (∀ s t : State, s.storeWf → step s = .next t → t.storeWf) ∧
 (∀ s t : State, s.bounded → step s = .next t → t.bounded)

/-- After every step the allowances, L_target, draw target, flush setpoint, enable output and off-time stand
as their rules give them from the rest of the state, and the generator is on only where R92 lets it (R86,
R87, R88, R90, R91, R92, R93, R161). -/
def Obligations.StepKeepsFollowingValues : Prop :=
  ∀ s t : State, s.settled → step s = .next t → t.settled ∧ t.generatorSafe

/-- L never rises above what this station has announced: at most the draw target, at most D, and at most the
draw of a notice in transmission (R89). -/
def Obligations.StepKeepsLevelUnderCeiling : Prop :=
  ∀ s t : State, s.underCeiling → step s = .next t → t.underCeiling

/-- Threader Control's outputs are on in their own phases only, and the jet valve is open only in FEED by
the holder of the jet (R120, R122, R124, R126, R130, R166). -/
def Obligations.StepKeepsOutputsInTheirPhases : Prop :=
  ∀ s t : State, s.threaderSafe → step s = .next t → t.threaderSafe

/-- A halted station stays halted, with its halt code, under every command but RESET STATION and power-on
(R59). -/
def Obligations.HaltedStationStaysHalted : Prop :=
  ∀ (c : Instr) (s t : State), s.haltedAtRest → c ≠ .resetStation →
    (∀ n p f, c ≠ .powerOn n p f) → exec c s = .next t → t.haltedAtRest ∧ t.seq.halt = s.seq.halt

/-- In RUN and HELD no command changes a byte of a locked record, and in HALTED no command changes any
record of the store (R15). -/
def Obligations.LockedRecordsStand : Prop :=
  (∀ (c : Instr) (s t : State), s.storeWf → s.seq.station = .run ∨ s.seq.station = .held →
    exec c s = .next t →
    ∀ i ∈ s.locks, ∀ k, k < 20 → storeRead t.store (20 * i + k) = storeRead s.store (20 * i + k)) ∧
  ∀ (c : Instr) (s t : State), s.seq.station = .halted → exec c s = .next t → t.store = s.store

/-- Each retained table is written by its own requests alone: the store by LOAD PATH and CLEAR STORE, the
Condition Table by LOAD CONDITION and CLEAR STORE, the setup record by SETUP, the wire position by the servo
period alone, and the straps by power-on (R1, R9, R20, R21, R95, R172, R178). It rests on the model's
choices of log 5. -/
def Obligations.RetainedItemsHaveTheirWriters : Prop :=
  ∀ (c : Instr) (s t : State), exec c s = .next t →
    (c ≠ .loadPath → c ≠ .clearStore → t.store = s.store) ∧
    (c ≠ .loadCondition → c ≠ .clearStore → t.conds = s.conds) ∧
    (c ≠ .setup → t.setup = s.setup) ∧
    (c ≠ .servoPeriodExpiry → t.exe.position = s.exe.position) ∧
    ((∀ n p f, c ≠ .powerOn n p f) → t.straps = s.straps)

/-- Nothing but LOAD PART and CLEAR STORE writes a host-set field of a part record (R17) or lowers its
erosion time (R27). -/
def Obligations.PartFieldsHaveTheirWriters : Prop :=
  ∀ (c : Instr) (s t : State) (p : PartNo), c ≠ .loadPart → c ≠ .clearStore → exec c s = .next t →
    (t.part p).sameHostFields (s.part p) ∧
      min (s.part p).erosion 4294967295 ≤ (t.part p).erosion

/-- Reports leave the queue by READ REPORTS and power-on alone, and every other command keeps those held, in
their order, in front of what it queues (R175, R176). -/
def Obligations.ReportsKeepTheirOrder : Prop :=
  ∀ (c : Instr) (s t : State), c ≠ .readReports → (∀ n p f, c ≠ .powerOn n p f) → exec c s = .next t →
    s.reports.items <+: t.reports.items ∧ min s.reports.lost 65535 ≤ t.reports.lost

/-! ### Frames of bytes -/

/-- A request's frame, as a host sends it, is received as that request (R169, R183). It rests on the model's
choices of log 35. -/
def Obligations.RequestFramesAreReceived : Prop :=
  ∀ r : Request, r.payload.length ≤ 399 → requestOf r.frame = some r

/-- A notice's 8 bytes are received as that notice, with every field at every value it can take (R155,
R182). -/
def Obligations.NoticeFramesAreReceived : Prop :=
  ∀ n : Notice, n.station < 8 → n.draw < 16 → n.flush < 16 → n.stamp < 65536 →
    n.bytes.length = 8 ∧ noticeOf n.bytes = some n

/-! ### Power and the station -/

/-- POWER_ON (R1, R16, R41, R61, R178): the straps as read, every block at its power-on values, the retained
items as they stood but for the mark, each part found ACTIVE or SEPARATING interrupted, and the allowances
of an empty peer table. The Report Queue after POWER_ON (R16, R61): emptied, then a present mark's
POWER_DOWN report, then one PART report with cause POWER for each part found ACTIVE or SEPARATING, in
ascending number. LISTEN_TIMER_EXPIRY in LISTEN enters IDLE (R10, R41). -/
def Obligations.PowerOnRestartsAndListens : Prop :=
 (∀ (n : Fin 8) (p f : Fin 16) (s : State), ∃ t, exec (.powerOn n p f) s = .next t ∧
    t = { State.poweredOn ⟨n, p, f⟩ with
          store := s.store, conds := s.conds, setup := s.setup, nest := t.nest, pending := s.pending
          exe := Executor.poweredOn s.exe.position, reports := t.reports
          coord := { Coordination.poweredOn with ap := min 15 (budget p), af := min 15 (budget f) } } ∧
    ∀ q, t.part q = if (s.part q).working then (s.part q).interrupted else s.part q) ∧
 (∀ (n : Fin 8) (p f : Fin 16) (s : State),
    ((List.finRange 32).filter fun q => (s.part q).working).length ≤ 31 →
    ∃ t, exec (.powerOn n p f) s = .next t ∧ t.seq.mark = none ∧ t.reports.lost = 0 ∧
      t.reports.items =
        (match s.seq.mark with
          | some m => [⟨.powerDown, m.part, none, m.station.code + 256 * activityCode m.activity, 0⟩]
          | none => []) ++
        ((List.finRange 32).filter fun q => (s.part q).working).map fun q =>
          ⟨.part, some q, some .power, 2 + 256 * passCode (s.part q).pass, 0⟩) ∧
 (∀ (s : State) (left : Nat), s.seq.station = .listen → s.seq.listen = some left → s.calm →
    ∃ t, exec .listenTimerExpiry s = .next t ∧
      State.settles s
        { s with seq := { s.seq.ended .idle with listen := none, window := s.seq.window }, locks := []
                 filters := s.filters.limitsFollowed } t ∧
      t.phase = .idle)

/-- POWER_WARN in LISTEN, IDLE, RUN and HELD stops the work, writes the power-down mark, makes one notice
due and enters POWER_DOWN with level, draw and flush 0 and the generator off (R60); in HALTED and POWER_DOWN
it changes nothing (R59, R136). In POWER_DOWN the station takes nothing but the end of its one transmission:
every command but POWER_ON and TRANSMISSION_COMPLETE leaves all blocks but the Cell Line Port as they stand (R60,
R136). The completion takes D, sets the collision count to 0, and ends degraded line mode with LINE_RESTORED and
the allowances in their normal form; no timer starts, and nothing more is due (R60, R153, R154). It rests on the
model's choices of log 26. -/
def Obligations.PowerWarnEntersPowerDown : Prop :=
 ((∀ s : State, s.seq.station = .listen ∨ s.seq.station = .idle ∨ s.seq.station = .run ∨
      s.seq.station = .held →
    ∃ t, exec .powerWarn s = .next t ∧
      t = { s.workStopped .power with
            seq := { s.seq.ended .powerDown with
                     listen := none, mark := some ⟨s.workingPart, s.seq.station, s.seq.activity⟩ }
            walking := false, gen := t.gen
            coord := { s.coord.released with refresh := none, ap := t.coord.ap, af := t.coord.af }
            port := { s.port with tx := .ready, due := true, frame := none, spacing := none, line := none
                                  idle := if s.port.frame.isSome then 0 else s.port.idle } } ∧
      t.settled ∧ t.phase = .halted ∧
      t.gen = { s.gen with level := 0, target := 0, cond := none, dry := none, on := false, draw := 0
                           flush := 0 }) ∧
  ∀ s : State, s.seq.station = .halted ∨ s.seq.station = .powerDown → exec .powerWarn s = .next s) ∧
 (∀ (c : Instr) (s t : State), s.downAtRest → (∀ n p f, c ≠ .powerOn n p f) → exec c s = .next t →
    t.downAtRest ∧ (c ≠ .transmissionComplete → t = { s with port := t.port })) ∧
 ∀ (s : State) (n : Notice), s.downAtRest → s.port.tx = .sending → s.port.frame = some n →
    ∃ t, exec .transmissionComplete s = .next t ∧
      t = { s with
        port := { s.port with tx := .quiet, due := false, frame := none, idle := 0, collisions := 0 }
        coord := { s.coord with drawn := n.draw, mode := .normal, ap := t.coord.ap, af := t.coord.af }
        reports := if s.coord.mode = .degraded
                   then (queueReport .lineRestored none none s.port.collisions s).reports else s.reports } ∧
      (s.coord.mode = .degraded → t.coord.ap = t.powerAllowance ∧ t.coord.af = t.flushAllowance) ∧
      (s.coord.mode = .normal → t.coord.ap = s.coord.ap ∧ t.coord.af = s.coord.af)

/-- RESET STATION in IDLE, RUN, HELD and HALTED clears the station's work, interrupts and reports each part found
ACTIVE or SEPARATING, and keeps the straps, the retained items, the drop count, the mark, the station total, the
position, the peer table, C_max, D and the line mode; in LISTEN it is refused (R62, R177). It rests on the
model's choices of log 9, and of log 36: a stamp that is cleared while the jet is NONE makes no notice due. -/
def Obligations.ResetStationClearsTheWork : Prop :=
  (∀ s : State, s.front = some ⟨0x0F, []⟩ → s.seq.station ≠ .listen → s.raised = [] →
    let found := (List.finRange 32).filter fun q => (s.part q).working
    ∃ t, exec .resetStation s = .next t ∧
      State.settles s
        { s with
          queue := [], history := [], fetch := Fetcher.flushed, exe := Executor.poweredOn s.exe.position
          gen := { Generator.poweredOn with total := s.gen.total }, thr := Threader.poweredOn
          filters := { s.filters.wireFollowed.limitsFollowed with tensionOk := s.filters.tensionOk.followed }
          coord := { s.coord with jet := .off, stamp := 0, settle := none, completed := false }
          seq := { Sequencer.poweredOn with
                   station := .idle, listen := none, dropCount := s.seq.dropCount, mark := s.seq.mark }
          port := if s.port.tx = .silent then { s.port with tx := .ready, due := true, line := some 20 }
                  else s.port
          locks := [], nest := t.nest, reports := t.reports
          link := s.answering ⟨0x0F, []⟩ .ok [] } t ∧
      (∀ q, t.part q = if (s.part q).working then (s.part q).interrupted else s.part q) ∧
      (s.reports.items.length + found.length ≤ 32 →
        t.reports.items = s.reports.items ++ found.map fun q =>
          ⟨.part, some q, some .reset, 2 + 256 * passCode (s.part q).pass, s.now % 2 ^ 32⟩)) ∧
  ∀ s : State, s.front = some ⟨0x0F, []⟩ → s.seq.station = .listen →
    exec .resetStation s = .next { s with link := s.answering ⟨0x0F, []⟩ .refusedState [] }

/-! ### The job link -/

/-- REQUEST_ARRIVAL of a good frame fills a free slot in arrival order, and with both slots full is
discarded and sets the overflow flag (R170). A discarded job link frame leaves the Port hunting for a start
byte and changes nothing else (R169); a discarded cell line frame sets the idle time to 0 and changes
nothing else, and in POWER_DOWN does so until the last transmission has ended (R60, R151); SPACING_TIMER_EXPIRY
stops the spacing timer alone (R152). The end of a response frees its request's slot, so that the next one may be
taken (R170); a code not assigned, or a length that does not match, is answered UNKNOWN with no other effect
(R171). It rests on the model's choices of log 9, 10. -/
def Obligations.ArrivalsFillTheBufferAndResponsesFreeIt : Prop :=
 (∀ (s : State) (frame : List Byte) (r : Request), requestOf frame = some r → s.seq.station ≠ .powerDown →
    (s.link.buffer.length < 2 →
      exec (.requestArrival frame) s = .next { s with link := { s.link with buffer := s.link.buffer ++ [r] } }) ∧
    (2 ≤ s.link.buffer.length →
      exec (.requestArrival frame) s = .next { s with link := { s.link with overflow := true } })) ∧
 (∀ s : State, s.seq.station ≠ .powerDown →
    exec .jobLinkFrameDiscard s = .next { s with link := { s.link with hunting := true } } ∧
    exec .jobLinkByteTimeout s = .next { s with link := { s.link with hunting := true } } ∧
    (∀ frame, requestOf frame = none →
      exec (.requestArrival frame) s = .next { s with link := { s.link with hunting := true } }) ∧
    exec .cellFrameDiscard s = .next { s with port := { s.port with idle := 0 } } ∧
    (∀ frame, noticeOf frame = none → s.port.tx ≠ .sending →
      exec (.noticeArrival frame) s = .next { s with port := { s.port with idle := 0 } }) ∧
    exec .spacingTimerExpiry s = .next { s with port := { s.port with spacing := none } }) ∧
 (∀ s : State, s.seq.station = .powerDown →
    (s.port.tx ≠ .quiet →
      exec .cellFrameDiscard s = .next { s with port := { s.port with idle := 0 } } ∧
      ∀ frame, s.port.tx ≠ .sending →
        exec (.noticeArrival frame) s = .next { s with port := { s.port with idle := 0 } }) ∧
    (s.port.tx = .quiet →
      exec .cellFrameDiscard s = .next s ∧ ∀ frame, exec (.noticeArrival frame) s = .next s)) ∧
 ((∀ (s : State) (r : Request) (rest : List Request) (p : Response),
    s.link.buffer = r :: rest → s.link.response = some p → s.seq.station ≠ .powerDown →
    exec .responseSent s = .next { s with link := { s.link with buffer := rest, response := none } }) ∧
  ∀ (s : State) (r : Request), s.front = some r → r.parse = .unknown →
    exec .unknownRequest s = .next { s with link := s.answering r .unknown [] })

/-- In HALTED every request but the READ requests and RESET STATION is answered HALTED, and in a state that
does not take it REFUSED_STATE, with no other effect (R59, R171). It rests on the model's choices of log 9.
-/
def Obligations.HaltedAndUntimelyRequestsAreRefused : Prop :=
  ∀ (s : State) (r : Request) (c : Instr) (states : List Station),
    s.front = some r →
    ((c = .setup ∧ r.code = 0x01 ∧ r.payload.length = 24 ∧ states = [.idle]) ∨
      (c = .loadCondition ∧ r.code = 0x02 ∧ r.payload.length = 12 ∧ states = [.idle]) ∨
      (c = .loadPath ∧ r.code = 0x03 ∧ 2 ≤ r.payload.length ∧ (r.payload.length - 2) % 20 = 0 ∧
        states = [.listen, .idle, .run, .held]) ∨
      (c = .loadPart ∧ r.code = 0x04 ∧ r.payload.length = 30 ∧ states = [.idle]) ∨
      (c = .clearStore ∧ r = ⟨0x05, []⟩ ∧ states = [.idle]) ∨
      (c = .startJob ∧ r = ⟨0x06, []⟩ ∧ states = [.idle]) ∨
      (c = .hold ∧ r = ⟨0x07, []⟩ ∧ states = [.run, .held]) ∨
      (c = .resume ∧ r = ⟨0x08, []⟩ ∧ states = [.held]) ∨
      (c = .abort ∧ r = ⟨0x09, []⟩ ∧ states = [.run, .held]) ∨
      (c = .skipPart ∧ r.code = 0x0A ∧ r.payload.length = 1 ∧ states = [.idle, .run, .held])) →
    (s.seq.station = .halted → exec c s = .next { s with link := s.answering r .halted [] }) ∧
    (s.seq.station ≠ .halted → s.seq.station ∉ states →
      exec c s = .next { s with link := s.answering r .refusedState [] })

/-! ### Loads -/

/-- SETUP in IDLE replaces the setup record whole when every field is in range, and refuses it otherwise
(R172); LOAD CONDITION in IDLE writes one entry whole and sets its loaded flag (R20). It rests on the
model's choices of log 9. -/
def Obligations.SetupAndConditionsAreWrittenWhole : Prop :=
  (∀ (s : State) (r : Request), s.front = some r → r.code = 0x01 → r.payload.length = 24 →
    s.seq.station = .idle →
    let w := Setup.read r.payload
    ((1 ≤ w.rapid ∧ w.rapid ≤ 200000 ∧ 1 ≤ w.dry ∧ w.dry ≤ 50000 ∧ 500 ≤ w.dropTime ∧ w.dropTime ≤ 20000 ∧
        w.xLow ≤ w.xHigh ∧ w.yLow ≤ w.yHigh) →
      exec .setup s = .next { s with setup := w, link := s.answering r .ok [] }) ∧
    (¬(1 ≤ w.rapid ∧ w.rapid ≤ 200000 ∧ 1 ≤ w.dry ∧ w.dry ≤ 50000 ∧ 500 ≤ w.dropTime ∧ w.dropTime ≤ 20000 ∧
        w.xLow ≤ w.xHigh ∧ w.yLow ≤ w.yHigh) →
      exec .setup s = .next { s with link := s.answering r .refusedRange [] })) ∧
  ∀ (s : State) (r : Request), s.front = some r → r.code = 0x02 → r.payload.length = 12 →
    s.seq.station = .idle →
    let c := Condition.read (r.payload.drop 1)
    let k := (r.payload.headD 0).toNat
    let good := 20 ≤ c.vref ∧ c.vref ≤ 200 ∧ 1 ≤ c.fmax ∧ c.fmax ≤ 4095 ∧ 1 ≤ c.lreq ∧ c.lreq ≤ 15 ∧
      1 ≤ c.freq ∧ c.freq ≤ 15 ∧ 1 ≤ c.rstep ∧ c.rstep ≤ 1023 ∧ 1 ≤ c.lr ∧ c.lr ≤ 2000 ∧
      2 ≤ c.offBase ∧ c.offBase ≤ 200
    (k < 16 → good → ∃ t, exec .loadCondition s = .next t ∧
      t = { s with conds := t.conds, link := s.answering r .ok [] } ∧
      ∀ i, t.condition i = if i.val = k then { c with loaded := true } else s.condition i) ∧
    (16 ≤ k ∨ ¬good → exec .loadCondition s = .next { s with link := s.answering r .refusedRange [] })

/-- LOAD PATH that names no locked record (any record in IDLE) writes its records, byte for byte, to
consecutive indices from the start index in one event, and changes no other byte (R9). LOAD PATH's refusals
in their order: no record, more than 16 or an index past 4095 gives REFUSED_RANGE in every state that takes
it, and a locked record outside IDLE REFUSED_LOCKED; nothing is written (R9, R15). It rests on the model's
choices of log 9. -/
def Obligations.LoadPathWritesItsRecordsOrNothing : Prop :=
 (∀ (s : State) (r : Request) (start : Nat) (rs : List (List Byte)), s.storeWf → s.front = some r →
    r.parse = .loadPath start rs →
    s.seq.station = .listen ∨ s.seq.station = .idle ∨ s.seq.station = .run ∨ s.seq.station = .held →
    1 ≤ rs.length → rs.length ≤ 16 → start + rs.length ≤ 4096 →
    (s.seq.station = .idle ∨ ∀ i ∈ s.locks, i < start ∨ start + rs.length ≤ i) →
    ∃ t, exec .loadPath s = .next t ∧ t = { s with store := t.store, link := s.answering r .ok [] } ∧
      (∀ a, a < 20 * start ∨ 20 * (start + rs.length) ≤ a → storeRead t.store a = storeRead s.store a) ∧
      ∀ a, 20 * start ≤ a → a < 20 * (start + rs.length) →
        storeRead t.store a = r.payload.getD (2 + (a - 20 * start)) 0) ∧
 (∀ (s : State) (r : Request) (start : Nat) (rs : List (List Byte)), s.front = some r →
    r.parse = .loadPath start rs →
    s.seq.station = .listen ∨ s.seq.station = .idle ∨ s.seq.station = .run ∨ s.seq.station = .held →
    ((rs.length = 0 ∨ 16 < rs.length ∨ 4096 < start + rs.length) →
      exec .loadPath s = .next { s with link := s.answering r .refusedRange [] }) ∧
    (1 ≤ rs.length → rs.length ≤ 16 → start + rs.length ≤ 4096 → s.seq.station ≠ .idle →
      (∃ i ∈ s.locks, start ≤ i ∧ i < start + rs.length) →
      exec .loadPath s = .next { s with link := s.answering r .refusedLocked [] }))

/-- LOAD PART in IDLE rewrites one part record: the host-set fields as sent, the device-owned fields as R19
gives them, every other part as it stood. CLEAR STORE in IDLE empties every path record, unloads every
condition and rewrites every part record; the setup record and all else stand (R21). It rests on the model's
choices of log 9. -/
def Obligations.LoadPartAndClearStoreRewriteTables : Prop :=
 (∀ (s : State) (r : Request), s.front = some r → r.code = 0x04 → r.payload.length = 30 →
    s.seq.station = .idle →
    let w := PartRecord.read (r.payload.drop 1)
    let k := (r.payload.headD 0).toNat
    let good := 1 ≤ w.passCount ∧ w.passCount ≤ 3 ∧ 1 ≤ w.threadLimit ∧ w.threadLimit ≤ 7 ∧
      1 ≤ w.breakLimit ∧ w.breakLimit ≤ 15
    (k < 32 → good → ∃ t, exec .loadPart s = .next t ∧
      t = { s with nest := t.nest, link := s.answering r .ok [] } ∧
      (∀ q, q.val ≠ k → t.part q = s.part q) ∧
      ∀ q, q.val = k →
        (t.part q).sameHostFields w ∧ (t.part q).state = .uncut ∧ (t.part q).cause = none ∧
        (t.part q).stage = .off ∧ (t.part q).pass = none ∧ (t.part q).progress = none ∧
        (t.part q).tab = none ∧ (t.part q).breakPoint = none ∧ (t.part q).breakCount = 0 ∧
        (t.part q).erosion = 0) ∧
    (32 ≤ k ∨ ¬good → exec .loadPart s = .next { s with link := s.answering r .refusedRange [] })) ∧
 (∀ s : State, s.front = some ⟨0x05, []⟩ → s.seq.station = .idle →
    ∃ t, exec .clearStore s = .next t ∧
      t = { s with store := t.store, conds := t.conds, nest := t.nest
                   link := s.answering ⟨0x05, []⟩ .ok [] } ∧
      (∀ i, t.record i = .empty) ∧
      (∀ i, t.condition i = ⟨false, 20, 1, 1, 1, 1, 1, 2⟩) ∧
      ∀ q, t.part q = PartRecord.cleared)

/-! ### Job control -/

/-- START JOB in IDLE begins the validation walk, and its response waits for the walk's end (R11, R45). The
end of a walk that failed answers INVALID with the failure's four items, and locks and changes nothing (R13). The
checks of R12 fail in their order: no setup record, a start hole outside the travel window, a contour index past
4095, a condition not loaded, then the record about to be read past the 65,536th, and the checks of a record's own
kind. The walk visits the enabled parts in ascending number and the passes of each in order; the walk of a pass reads
its contour from its index, outside any call, with a budget of 65,536 records, checks each record it reads and goes
on where the check goes on, and a walk of n records that went on has used n of its budget, so the record after the
65,536th is UNTERMINATED (R11, R12). The lock set of a walk that passed holds the first record of every pass of every enabled part, every record
that reading goes on to from one it holds, and no other, each once (R11, R13). It rests on the model's choices of
log 9. -/
def Obligations.StartJobWalksAndFailedWalkChangesNothing : Prop :=
 (∀ s : State, s.front = some ⟨0x06, []⟩ → s.seq.station = .idle →
    exec .startJob s = .next { s with walking := true }) ∧
 ((∀ (s : State) (f : WalkFailure), s.walking = true → s.seq.station = .idle → walkJob s = .error f →
    ∀ r rest, s.link.buffer = r :: rest →
    exec .validationWalkEnd s =
      .next { s with walking := false, link := s.answering r .invalid f.bytes }) ∧
  ∀ (s : State) (r : Request) (rest : List Request), s.walking = true → s.seq.station = .idle →
    s.link.buffer = r :: rest →
    let fails := fun bytes => exec .validationWalkEnd s =
      .next { s with walking := false, link := s.answering r .invalid bytes }
    (s.setup.present = false → fails [255, 0, 255, 255, 30]) ∧
    ∀ (p : PartNo) (b : Byte), s.setup.present = true → (s.part p).enabled = true →
      (∀ q, q < p → (s.part q).enabled = false) → b.toNat = p.val →
      (s.setup.inWindow (s.part p).startHole = false → fails [b, 0, 255, 255, 31]) ∧
      ∀ first cond, s.setup.inWindow (s.part p).startHole = true → 1 ≤ (s.part p).passCount →
        (s.part p).contour.first = some first → (s.part p).initial.first = some cond →
        (4096 ≤ first → fails [b, 1, 255, 255, 32]) ∧
        (first < 4096 → s.isLoaded cond = false → fails [b, 1, 255, 255, 33]) ∧
        ∀ i : PathIndex, first = i.val → s.isLoaded cond = true →
          s.record i = .empty ∨ s.record i = .unassigned →
          fails ([b, 1] ++ toBytes 2 i.val ++ [11])) ∧
 (∀ (s : State) (retain : Bool) (w : WalkPoint),
    checkRecord s retain w .empty = .fails .invalidRecord ∧
    checkRecord s retain w .unassigned = .fails .invalidRecord ∧
    (∀ k, 16 ≤ k → checkRecord s retain w (.cond k) = .fails .invalidRecord) ∧
    (∀ k : CondNo, checkRecord s retain w (.cond k.val) =
      if (s.condition k).loaded = true then .on w.next else .fails .conditionUnloaded) ∧
    (∀ target n dx dy, 4096 ≤ target → checkRecord s retain w (.call target n dx dy) = .fails .targetRange) ∧
    (∀ (target : PathIndex) (n : Nat) (dx dy : Int), checkRecord s retain w (.call target.val n dx dy) =
      if 15 ≤ w.returns.length then .fails .nesting
      else .on { w with position := target, returns := (w.position + 1) :: w.returns }) ∧
    (checkRecord s retain w .tab =
      if w.returns = [] ∧ w.tabbed = false then .on { w.next with tabbed := true } else .fails .tabPlacement) ∧
    (w.returns = [] → checkRecord s retain w .fin =
      if retain = true ∧ w.tabbed = false then .fails .tabMissing else .ends w.locks) ∧
    (∀ back rest, w.returns = back :: rest →
      checkRecord s retain w .fin = .on { w with position := back, returns := rest }) ∧
    (∀ x y, checkRecord s retain w (.line x y) = .on w.next) ∧
    (∀ cw x y cx cy, checkRecord s retain w (.arc cw x y cx cy) = .on w.next) ∧
    ∀ fail, walkContour s retain fail 0 w = .error (fail .unterminated w.position)) ∧
 (∀ (s : State) (retain : Bool) (fail : Cause → PathIndex → WalkFailure) (n : Nat),
    let read := fun (w : WalkPoint) =>
      checkRecord s retain { w with locks := lockInsert w.position.val w.locks } (s.record w.position)
    (∀ w : WalkPoint,
      (∀ c, read w = .fails c → walkContour s retain fail (n + 1) w = .error (fail c w.position)) ∧
      (∀ locks, read w = .ends locks → walkContour s retain fail (n + 1) w = .ok locks) ∧
      ∀ v, read w = .on v → walkContour s retain fail (n + 1) w = walkContour s retain fail n v) ∧
    ∀ path : Nat → WalkPoint, (∀ k, k < n → read (path k) = .on (path (k + 1))) →
      (∀ m, walkContour s retain fail (n + m) (path 0) = walkContour s retain fail m (path n)) ∧
      walkContour s retain fail n (path 0) = .error (fail .unterminated (path n).position)) ∧
 (∀ (s : State) (p : PartNo) (locks : List Nat),
    (s.setup.present = true → walkJob s = (List.finRange 32).foldlM (walkPart s) []) ∧
    ((s.part p).enabled = false → walkPart s locks p = .ok locks) ∧
    ((s.part p).enabled = true → s.setup.inWindow (s.part p).startHole = false →
      walkPart s locks p = .error ⟨.startHoleTravel, some p, none, none⟩) ∧
    ((s.part p).enabled = true → s.setup.inWindow (s.part p).startHole = true →
      walkPart s locks p = ([Pass.first, .second, .third].filter fun pass =>
        pass.code ≤ (s.part p).passCount).foldlM (walkPass s p) locks) ∧
    ∀ pass first cond, (s.part p).contour.get pass = some first → (s.part p).initial.get pass = some cond →
      (4096 ≤ first → walkPass s p locks pass = .error ⟨.targetRange, some p, some pass, none⟩) ∧
      (first < 4096 → s.isLoaded cond = false →
        walkPass s p locks pass = .error ⟨.conditionUnloaded, some p, some pass, none⟩) ∧
      ∀ i : PathIndex, first = i.val → s.isLoaded cond = true →
        walkPass s p locks pass = walkContour s (s.part p).retain
          (fun c j => ⟨c, some p, some pass, some j⟩) 65536 ⟨i, [], false, locks⟩) ∧
 (∀ (s : State) (locks : List Nat), walkJob s = .ok locks →
    locks.Pairwise (· < ·) ∧ (∀ k ∈ locks, k < 4096) ∧
    (∀ p pass, (s.part p).enabled = true → pass ≠ .separation → pass.code ≤ (s.part p).passCount →
      ∃ k ∈ locks, (s.part p).contour.get pass = some k) ∧
    (∀ i j : PathIndex, i.val ∈ locks → s.leadsTo i j → j.val ∈ locks) ∧
    ∀ j : PathIndex, j.val ∈ locks →
      (∃ p pass, (s.part p).enabled = true ∧ pass.code ≤ (s.part p).passCount ∧
        (s.part p).contour.get pass = some j.val) ∨
      ∃ i : PathIndex, i.val ∈ locks ∧ s.leadsTo i j)

/-- START JOB in IDLE begins the validation walk: the request stays in the buffer, and neither it nor a request behind
it is taken until the walk has ended; the walk reads the store and tables as they stand, and its end answers the
request (R11, R14, R45). The end of a walk that passed, with an UNCUT enabled part and none INTERRUPTED in the cutting
phase: OK, the lock set, RUN with LIMIT and WIRE_LOW watched, and the lowest-numbered UNCUT part is moved to (R13, R23,
R25, R44, R45, R54). The part that the order of R23 takes up when it is INTERRUPTED or TABBED: an INTERRUPTED part
becomes ACTIVE or SEPARATING and is recovered by its HOLE or TAB route from the CUT step, or its drop window is
opened again with the full drop time, or, with no break point, it is moved to its tab point, as a TABBED part is
(R23, R25, R29, R148). A job whose enabled parts are all final ends at its first selection point: OK, a
JOB_END report with the station total, and IDLE with the lock set empty; no part changes (R24, R45). It rests on
the model's choices of log 9. -/
def Obligations.PassedWalkStartsOrEndsTheJob : Prop :=
 (∀ s : State, s.front = some ⟨0x06, []⟩ → s.seq.station = .idle →
    ∃ t, exec .startJob s = .next t ∧ t = { s with walking := true } ∧ t.front = none ∧
      walkJob t = walkJob s ∧
      ∃ u, exec .validationWalkEnd t = .next u ∧ u.walking = false ∧
        ∃ status payload, u.link = s.answering ⟨0x06, []⟩ status payload ∧
          ((∃ f, walkJob s = .error f) → status = .invalid) ∧ ((∃ locks, walkJob s = .ok locks) → status = .ok)) ∧
 (∀ (s : State) (r : Request) (rest : List Request) (locks : List Nat) (p : PartNo), s.walking = true →
    s.seq.station = .idle → walkJob s = .ok locks → s.link.buffer = r :: rest → s.calm →
    s.filters.limit.level = .clear → s.filters.wireLow.level = .clear →
    (∀ q, (s.part q).enabled = true → ¬((s.part q).state = .interrupted ∧ (s.part q).stage = .off)) →
    (s.part p).enabled = true → (s.part p).state = .uncut →
    (∀ q, q < p → ¬((s.part q).enabled = true ∧ (s.part q).state = .uncut)) →
    ∃ t, exec .validationWalkEnd s = .next t ∧
      State.settles s
        { s with
          walking := false, locks := locks, link := s.answering r .ok []
          seq := { s.seq with station := .run, activity := some .moving, current := some p, skipCount := 0
                              dropCount := 0, skipOwed := false, owed := none }
          filters := { s.filters with limit := { s.filters.limit with expected := .clear }
                                      wireLow := { s.filters.wireLow with expected := .clear } }
          exe := s.exe.bound (s.part p).startHole } t) ∧
 (∀ (s : State) (r : Request) (rest : List Request) (locks : List Nat) (p : PartNo), s.walking = true →
    s.seq.station = .idle → walkJob s = .ok locks → s.link.buffer = r :: rest → s.calm →
    s.filters.limit.level = .clear → s.filters.wireLow.level = .clear → s.filters.cutterDone.level = .clear →
    s.thr.request = .off → s.selects p →
    let q0 := { s.seq with station := .run, current := some p, skipCount := 0, dropCount := 0
                           skipOwed := false, owed := none }
    let f0 := { s.filters with limit := { s.filters.limit with expected := .clear }
                               wireLow := { s.filters.wireLow with expected := .clear } }
    let taken := fun (seq : Sequencer) (thr : Threader) (filters : Filters) (exe : Executor) (r' : PartRecord) =>
      ∃ t, exec .validationWalkEnd s = .next t ∧
        State.settles s
          { s with walking := false, locks := locks, link := s.answering r .ok [], seq := seq, thr := thr
                   filters := filters, exe := exe, nest := t.nest
                   reports := (queueReport .part (some p) none (r'.state.code + 256 * passCode r'.pass) s).reports
          } t ∧
        (∀ q, q ≠ p → t.part q = s.part q) ∧ t.part p = r'
    let w := s.part p
    (w.state = .interrupted → w.stage = .off →
      taken { q0 with activity := some .recovering, route := .hole, step := some .cut } s.thr.severing f0.cutTip
        s.exe { w with state := .active }) ∧
    (w.state = .interrupted → w.stage = .cut → w.breakPoint.isSome →
      taken { q0 with activity := some .recovering, route := .tab, step := some .cut } s.thr.severing f0.cutTip
        s.exe { w with state := .separating, pass := some .separation }) ∧
    (w.state = .interrupted → w.stage = .window →
      taken { q0 with activity := some .dropWatch, window := some s.setup.dropTime } s.thr f0 s.exe
        { w with state := .separating, pass := some .separation }) ∧
    ∀ at_, w.tab = some at_ →
      (w.state = .interrupted → w.stage = .cut → w.breakPoint = none →
        taken { q0 with activity := some .moving } s.thr f0 (s.exe.bound at_.at_)
          { w with state := .separating, pass := some .separation }) ∧
      (w.state = .tabbed →
        taken { q0 with activity := some .moving } s.thr f0 (s.exe.bound at_.at_)
          { w with state := .separating, stage := .cut, pass := some .separation })) ∧
 (∀ (s : State) (r : Request) (rest : List Request) (locks : List Nat), s.walking = true →
    s.seq.station = .idle → walkJob s = .ok locks → s.link.buffer = r :: rest → s.calm →
    s.filters.limit.level = .clear → s.filters.wireLow.level = .clear →
    (∀ q, (s.part q).enabled = true →
      (s.part q).state = .released ∨ (s.part q).state = .hung ∨ (s.part q).state = .skipped) →
    ∃ t, exec .validationWalkEnd s = .next t ∧
      State.settles s
        { s with
          walking := false, locks := [], link := s.answering r .ok []
          seq := { s.seq.ended .idle with skipCount := 0, dropCount := 0, window := s.seq.window }
          filters := { s.filters with limit := s.filters.limit.followed, wireLow := s.filters.wireLow.followed }
          reports := (queueReport .jobEnd none none s.gen.total s).reports } t)

/-- HOLD in RUN enters HELD at once and keeps the activity; a thread past its CUT_TIP is stopped, held and
not counted, and the jet released. HOLD in HELD changes nothing (R46, R130). RESUME with nothing owed enters
RUN and goes on; a held thread starts again at CUT_TIP with its count kept; an owed wire cut begins, with
the activity WIRE_CUTTING (R47, R48, R130). It rests on the model's choices of log 9. -/
def Obligations.HoldAndResumeKeepTheWork : Prop :=
 ((∀ s : State, s.front = some ⟨0x07, []⟩ → s.seq.station = .run → s.raised = [] →
    s.thr.request ≠ .thread ∨ s.thr.phase = .idle ∨ s.thr.phase = .cutTip ∨ s.thr.phase = .done →
    s.thr.phase ≠ .annealWait →
    ∃ t, exec .hold s = .next t ∧
      State.settles s { s with seq := { s.seq with station := .held }
                               link := s.answering ⟨0x07, []⟩ .ok [] } t ∧ t.gen.on = false) ∧
  (∀ s : State, s.front = some ⟨0x07, []⟩ → s.seq.station = .run → s.raised = [] →
    s.thr.request = .thread → s.thr.phase.attempting = true →
    ∃ t, exec .hold s = .next t ∧
      State.settles s
        { s with
          seq := { s.seq with station := .held }, link := s.answering ⟨0x07, []⟩ .ok []
          thr := { s.thr with phase := .idle, held := true, cutter := false, anneal := false, valve := false
                              feed := false, timer := none, sagBlank := none }
          filters := s.filters.wireFollowed, coord := s.coord.released } t) ∧
  ∀ s : State, s.front = some ⟨0x07, []⟩ → s.seq.station = .held →
    exec .hold s = .next { s with link := s.answering ⟨0x07, []⟩ .ok [] }) ∧
 ((∀ s : State, s.front = some ⟨0x08, []⟩ → s.seq.station = .held → s.calm → s.seq.owed = none →
    s.thr.held = false → (s.thr.request = .thread → s.seq.skipOwed = false) →
    ∃ t, exec .resume s = .next t ∧
      State.settles s { s with seq := { s.seq with station := .run, owed := none }
                               link := s.answering ⟨0x08, []⟩ .ok [] } t) ∧
  (∀ s : State, s.front = some ⟨0x08, []⟩ → s.seq.station = .held → s.raised = [] → s.seq.owed = none →
    s.thr.held = true → s.seq.skipOwed = false → s.filters.cutterDone.level = .clear →
    ∃ t, exec .resume s = .next t ∧
      State.settles s { s with seq := { s.seq with station := .run, owed := none }
                               link := s.answering ⟨0x08, []⟩ .ok []
                               thr := { s.thr.cutting with held := false }
                               filters := s.filters.cutTip } t ∧
      t.thr.attempts = s.thr.attempts) ∧
  ∀ s : State, s.front = some ⟨0x08, []⟩ → s.seq.station = .held → s.raised = [] →
    s.seq.owed = some .wireCut → s.thr.request = .off → s.filters.cutterDone.level = .clear →
    ∃ t, exec .resume s = .next t ∧
      State.settles s { s with seq := { s.seq with station := .run, owed := none
                                                   activity := some .wireCutting }
                               link := s.answering ⟨0x08, []⟩ .ok []
                               thr := { s.thr.cutting with request := .cut, tensionCheck := false }
                               filters := s.filters.cutTip } t)

/-- The interruption of the current part, where it is ACTIVE or SEPARATING, sets its fields as R37 gives
them and queues its PART report with the reason; it changes nothing else. ABORT in RUN and HELD stops the
work, makes the current part INTERRUPTED if it was being worked, and enters IDLE with the lock set and the
latch empty; the wire, the counts and the other parts stand (R10, R37, R49). It rests on the model's choices
of log 9. -/
def Obligations.InterruptionAndAbort : Prop :=
 (∀ (s : State) (p : PartNo) (reason : Cause), s.seq.current = some p → (s.part p).working = true →
    let t := interruptCurrent reason s
    t = { s with nest := t.nest, reports := t.reports } ∧ (∀ q, q ≠ p → t.part q = s.part q) ∧
    (t.part p).sameHostFields (s.part p) ∧ (t.part p).state = .interrupted ∧ (t.part p).cause = none ∧
    (t.part p).pass = (s.part p).pass ∧ (t.part p).progress = (s.part p).progress ∧
    (t.part p).tab = (s.part p).tab ∧ (t.part p).breakCount = (s.part p).breakCount ∧
    (t.part p).erosion = (s.part p).erosion ∧
    (t.part p).stage = (if (s.part p).state = .active then .off else (s.part p).stage) ∧
    ((s.part p).breakPoint.isSome → (t.part p).breakPoint = (s.part p).breakPoint) ∧
    ((s.part p).breakPoint = none → (t.part p).stage = .off → (t.part p).breakPoint = (s.part p).progress) ∧
    ((s.part p).breakPoint = none → (t.part p).stage = .cut →
      (t.part p).breakPoint = (s.part p).progress.filter fun g => g.pass == .separation) ∧
    ((s.part p).breakPoint = none → (t.part p).stage = .window → (t.part p).breakPoint = none) ∧
    (s.reports.items.length < 32 →
      t.reports.items = s.reports.items ++
        [⟨.part, some p, some reason, 2 + 256 * passCode (s.part p).pass, s.now % 2 ^ 32⟩])) ∧
 (∀ s : State, s.front = some ⟨0x09, []⟩ → s.seq.station = .run ∨ s.seq.station = .held → s.raised = [] →
    ∃ t, exec .abort s = .next t ∧
      State.settles s
        { s.workStopped .abort with
          seq := s.seq.ended .idle, locks := [], link := s.answering ⟨0x09, []⟩ .ok []
          filters := s.filters.wireFollowed.limitsFollowed } t ∧ t.gen.on = false)

/-- SKIP PART of a part that is not current: out of range refused, UNCUT, INTERRUPTED and TABBED made
SKIPPED with cause HOST and reported, RELEASED, HUNG and SKIPPED refused; it moves and cuts nothing, and a
part skipped so is not selected later (R38, R50). It rests on the model's choices of log 9. -/
def Obligations.SkipOfAnotherPartActsAtOnce : Prop :=
  ∀ (s : State) (b : Byte), s.front = some ⟨0x0A, [b]⟩ →
    s.seq.station = .idle ∨ s.seq.station = .run ∨ s.seq.station = .held →
    (32 ≤ b.toNat → exec .skipPart s = .next { s with link := s.answering ⟨0x0A, [b]⟩ .refusedRange [] }) ∧
    ∀ p : PartNo, p.val = b.toNat → s.seq.current ≠ some p →
      ((s.part p).state = .released ∨ (s.part p).state = .hung ∨ (s.part p).state = .skipped →
        exec .skipPart s = .next { s with link := s.answering ⟨0x0A, [b]⟩ .refusedState [] }) ∧
      ((s.part p).state = .uncut ∨ (s.part p).state = .interrupted ∨ (s.part p).state = .tabbed →
        ∃ t, exec .skipPart s = .next t ∧
          t = { s with nest := t.nest, reports := t.reports, link := s.answering ⟨0x0A, [b]⟩ .ok [] } ∧
          (∀ q, q ≠ p → t.part q = s.part q) ∧
          t.part p = { s.part p with state := .skipped, cause := some .host, stage := .off
                                     breakPoint := none } ∧
          (s.reports.items.length < 32 →
            t.reports.items = s.reports.items ++
              [⟨.part, some p, some .host, 7 + 256 * passCode (s.part p).pass, s.now % 2 ^ 32⟩]) ∧
          choosePart t ≠ some p)

/-- SKIP PART of the current part sets skip owed and nothing else outside DROP_WATCH, and is acted at once
in DROP_WATCH: the window closed, the part SKIPPED with cause HOST, and in RUN a wire cut begun (R38, R51).
It rests on the model's choices of log 9. -/
def Obligations.SkipOfTheCurrentPart : Prop :=
  (∀ (s : State) (b : Byte) (p : PartNo), s.front = some ⟨0x0A, [b]⟩ → p.val = b.toNat →
    s.seq.current = some p → s.seq.station = .idle ∨ s.seq.station = .run ∨ s.seq.station = .held →
    s.seq.activity ≠ some .dropWatch →
    exec .skipPart s = .next { s with seq := { s.seq with skipOwed := true }
                                      link := s.answering ⟨0x0A, [b]⟩ .ok [] }) ∧
  ∀ (s : State) (b : Byte) (p : PartNo), s.front = some ⟨0x0A, [b]⟩ → p.val = b.toNat →
    s.seq.current = some p → s.seq.station = .run → s.seq.activity = some .dropWatch →
    s.raised = [] → s.thr.request = .off → s.filters.cutterDone.level = .clear →
    ∃ t, exec .skipPart s = .next t ∧
      State.settles s
        { s with
          queue := [], history := [], fetch := Fetcher.flushed, exe := s.exe.cleared
          seq := { s.seq.ended .run with activity := some .wireCutting, owed := s.seq.owed }
          thr := { s.thr.cutting with request := .cut, tensionCheck := false }
          filters := s.filters.cutTip, nest := t.nest, reports := t.reports
          link := s.answering ⟨0x0A, [b]⟩ .ok [] } t ∧
      (∀ q, q ≠ p → t.part q = s.part q) ∧
      t.part p = { s.part p with state := .skipped, cause := some .host, stage := .off, breakPoint := none }

/-! ### Reads -/

/-- READ STATUS answers OK with 33 bytes that carry R173's items in their places and clears the overflow
flag alone. It rests on the model's choices of log 9, of log 18 (which bit of byte 29 is the saturation flag of
which count), of log 38 (the position's low 32 bits) and of log 41 (1 for the set generator-on mark of byte 32). -/
def Obligations.ReadStatusReturnsTheItems : Prop :=
  ∀ s : State, s.front = some ⟨0x0B, []⟩ →
    ∃ b : List Byte, b.length = 33 ∧
      exec .readStatus s =
        .next { s with link := { s.answering ⟨0x0B, []⟩ .ok b with overflow := false } } ∧
      b.getD 0 0 = BitVec.ofNat 8 s.seq.station.code ∧ b.getD 1 0 = BitVec.ofNat 8 (activityCode s.seq.activity) ∧
      b.getD 2 0 = BitVec.ofNat 8 ((s.seq.current.map Fin.val).getD 255) ∧
      b.getD 3 0 = BitVec.ofNat 8 (passCode (s.seq.current.bind fun p => (s.part p).pass)) ∧
      (field b 4 4) = intBytes s.exe.position.x ∧ (field b 8 4) = intBytes s.exe.position.y ∧
      b.getD 12 0 = BitVec.ofNat 8 s.gen.level ∧ b.getD 13 0 = BitVec.ofNat 8 s.gen.target ∧
      b.getD 14 0 = BitVec.ofNat 8 s.coord.drawn ∧ b.getD 15 0 = BitVec.ofNat 8 s.coord.ap ∧
      b.getD 16 0 = BitVec.ofNat 8 s.coord.af ∧ b.getD 17 0 = BitVec.ofNat 8 s.coord.jet.code ∧
      (field b 18 2) = toBytes 2 s.coord.stamp ∧ b.getD 20 0 = flagByte (s.coord.mode == .degraded) ∧
      b.getD 21 0 = BitVec.ofNat 8 (causeCode (s.seq.halt.map HaltCode.cause)) ∧
      b.getD 22 0 = BitVec.ofNat 8 s.reports.items.length ∧ b.getD 23 0 = flagByte s.link.overflow ∧
      b.getD 24 0 = BitVec.ofNat 8 s.seq.dropCount ∧ b.getD 25 0 = BitVec.ofNat 8 s.seq.skipCount ∧
      b.getD 26 0 = BitVec.ofNat 8 s.gap.last.normal ∧ b.getD 27 0 = BitVec.ofNat 8 s.gap.last.arc ∧
      b.getD 28 0 = BitVec.ofNat 8 s.gap.last.short ∧
      b.getD 29 0 = BitVec.ofNat 8 ((if s.gap.last.satNormal then 1 else 0) + (if s.gap.last.satArc then 2 else 0) +
        (if s.gap.last.satShort then 4 else 0)) ∧
      b.getD 30 0 = BitVec.ofNat 8 s.gap.last.mean ∧
      b.getD 31 0 = BitVec.ofNat 8 s.gap.last.openReading ∧ b.getD 32 0 = flagByte s.gap.last.mark

/-- READ PART answers with the number and the record's two blocks, 72 bytes, or REFUSED_RANGE, and READ
PEERS with 83 bytes, the entry of the own number as not present; neither changes anything else (R174, R183).
It rests on the model's choices of log 9, of log 19 (the bytes of absent points) and of log 41 (1 for the set present,
heavy and C_max seen flags). -/
def Obligations.ReadPartAndPeersChangeNothing : Prop :=
  (∀ (s : State) (b : Byte), s.front = some ⟨0x0C, [b]⟩ →
    (32 ≤ b.toNat → exec .readPart s = .next { s with link := s.answering ⟨0x0C, [b]⟩ .refusedRange [] }) ∧
    ∀ p : PartNo, p.val = b.toNat →
      (b :: (s.part p).hostBlock ++ (s.part p).deviceBlock p.val s.now).length = 72 ∧
      exec .readPart s = .next { s with
        link := s.answering ⟨0x0C, [b]⟩ .ok (b :: (s.part p).hostBlock ++ (s.part p).deviceBlock p.val s.now) }) ∧
  ∀ s : State, s.front = some ⟨0x0D, []⟩ →
    ∃ b : List Byte, b.length = 83 ∧
      exec .readPeers s = .next { s with link := s.answering ⟨0x0D, []⟩ .ok b } ∧
      (∀ n : StationNo, field b (10 * n.val) 10 =
        peerBytes (if n = s.straps.station then none else s.peer n)) ∧
      field b 80 2 = toBytes 2 s.coord.cmax ∧ b.getD 82 0 = flagByte s.coord.cmaxSeen

/-- READ REPORTS removes up to 8 reports, oldest first, returns them in that order with their number and the
lost count, and sets the lost count to 0 (R176). It rests on the model's choices of log 9. -/
def Obligations.ReadReportsRemovesTheOldest : Prop :=
  ∀ s : State, s.front = some ⟨0x0E, []⟩ →
    exec .readReports s = .next { s with
      reports := { items := s.reports.items.drop 8, lost := 0 }
      link := s.answering ⟨0x0E, []⟩ .ok
        (BitVec.ofNat 8 (min 8 s.reports.items.length) ::
          ((s.reports.items.take 8).map Report.bytes).flatten ++ toBytes 2 s.reports.lost) }

/-- A report is queued behind those held with the time in ms since power-on while fewer than 32 are held,
and is otherwise dropped and counted lost (R175). -/
def Obligations.ReportsAreQueuedOrCountedLost : Prop :=
  ∀ (s : State) (k : ReportKind) (p : Option PartNo) (c : Option Cause) (d : Nat),
    (s.reports.items.length < 32 →
      queueReport k p c d s =
        { s with reports := { s.reports with
                              items := s.reports.items ++ [⟨k, p, c, d % 2 ^ 32, s.now % 2 ^ 32⟩] } }) ∧
    (32 ≤ s.reports.items.length →
      queueReport k p c d s =
        { s with reports := { s.reports with lost := min (s.reports.lost + 1) 65535 } })

/-! ### The servo period -/

/-- A servo period expiry in every station state but POWER_DOWN closes the period into the capture of R83,
clears the counts, sums and tallies, adds a marked period to the station total (R94) and takes the arc guard
on it (R93). It rests on the model's choices of log 5. -/
def Obligations.PeriodClosesTheCapture : Prop :=
  ∀ s : State, s.seq.station ≠ .powerDown → ∃ t, exec .servoPeriodExpiry s = .next t ∧
    t.now = s.now + 1 ∧
    t.gap.last.normal = s.gap.normal ∧ t.gap.last.arc = s.gap.arc ∧ t.gap.last.short = s.gap.short ∧
    t.gap.last.satNormal = s.gap.satNormal ∧ t.gap.last.satArc = s.gap.satArc ∧
    t.gap.last.satShort = s.gap.satShort ∧ t.gap.last.mark = s.gap.mark ∧
    (s.gap.openTally = 0 → t.gap.last.openReading = 0) ∧
    (0 < s.gap.openTally →
      t.gap.last.openReading = (2 * s.gap.openSum + s.gap.openTally) / (2 * s.gap.openTally)) ∧
    (s.gap.burnTally = 0 → t.gap.last.mean = t.gap.last.openReading) ∧
    (0 < s.gap.burnTally →
      t.gap.last.mean = (2 * s.gap.burnSum + s.gap.burnTally) / (2 * s.gap.burnTally)) ∧
    t.gap.normal = 0 ∧ t.gap.arc = 0 ∧ t.gap.short = 0 ∧ t.gap.burnSum = 0 ∧ t.gap.burnTally = 0 ∧
    t.gap.openSum = 0 ∧ t.gap.openTally = 0 ∧ t.gap.satNormal = false ∧ t.gap.satArc = false ∧
    t.gap.satShort = false ∧ (s.gen.on = true ∨ t.gen.on = true → t.gap.mark = true) ∧
    (s.gap.mark = false → t.gen.total = s.gen.total ∧ t.gen.stretch = s.gen.stretch ∧
      t.gen.arcFree = s.gen.arcFree) ∧
    (s.gap.mark = true → t.gen.total = min (s.gen.total + 1) 4294967295) ∧
    let n := s.gap.normal + s.gap.arc + s.gap.short
    (s.gap.mark = true → 0 < n → n ≤ 8 * s.gap.arc →
      t.gen.stretch = min (s.gen.stretch + 1) 3 ∧ t.gen.arcFree = 0) ∧
    (s.gap.mark = true → n = 0 ∨ 8 * s.gap.arc < n → s.gen.arcFree < 15 →
      t.gen.stretch = s.gen.stretch ∧ t.gen.arcFree = s.gen.arcFree + 1) ∧
    (s.gap.mark = true → n = 0 ∨ 8 * s.gap.arc < n → s.gen.arcFree = 15 →
      t.gen.stretch = s.gen.stretch - 1 ∧ t.gen.arcFree = 0)

/-- A servo period in HELD moves nothing: executor, queue, history, fetcher, threader, part states and
position stand, the timers run on, and the part being worked is credited: its progress takes the front where that
lies beyond it, and a marked period adds 1 ms to its erosion time (R27, R46, R94, R117). It rests on the model's
choices of log 5, 12. -/
def Obligations.HeldPeriodMovesNothing : Prop :=
  ∀ s : State, s.seq.station = .held → s.calm → ∃ t, exec .servoPeriodExpiry s = .next t ∧
    t = { s with seq := s.seq.aged, thr := s.thr.aged, gap := t.gap, gen := t.gen, coord := t.coord
                 port := t.port, now := s.now + 1, nest := t.nest } ∧
    t.gen.on = false ∧ ∀ q, t.part q = s.credited s.exe.front q

/-- A move advances by the setup rapid rate along its line, short of its target (R106, R108). A move that
reaches its length stands at its target and arrives: with no skip owed a thread is asked for, in HOLE mode at the
start hole of an UNCUT part with the activity THREADING, in SLOT mode at the tab point of any other part so moved
to, and in a recovery in SLOT mode on the TAB route and HOLE mode on the others with the step THREAD (R25, R29,
R43, R44, R108, R121, R142, R145). The part being worked is credited (R27, R94). It rests on the model's choices
of log 5, 11, 12, 14. -/
def Obligations.MovesAdvanceAndArrive : Prop :=
 (∀ (s : State) (m : Move), s.seq.station = .run → s.exe.task = .move → s.exe.move = some m → s.calm →
    m.progress + s.setup.rapid < m.length →
    ∃ t, exec .servoPeriodExpiry s = .next t ∧
      t = { s with seq := s.seq.aged, thr := s.thr.aged, gap := t.gap, gen := t.gen, coord := t.coord
                   port := t.port, now := s.now + 1, nest := t.nest
                   exe := { s.exe with
                            move := some { m with progress := m.progress + s.setup.rapid }
                            position := linePoint m.start m.target m.length (m.progress + s.setup.rapid) } } ∧
      ∀ q, t.part q = s.credited s.exe.front q) ∧
 (∀ (s : State) (m : Move) (p : PartNo) (mode : Mode) (seq : Sequencer), s.seq.station = .run →
    s.exe.task = .move → s.exe.move = some m → s.calm → 0 < m.length → m.length ≤ m.progress + s.setup.rapid →
    s.seq.current = some p → s.seq.skipOwed = false → s.thr.request = .off →
    s.filters.cutterDone.level = .clear →
    ((s.seq.activity = some .moving ∧ mode = (if (s.part p).state = .uncut then .hole else .slot) ∧
        seq = { s.seq.aged with activity := some .threading }) ∨
      (s.seq.activity = some .recovering ∧ mode = (if s.seq.route = .tab then .slot else .hole) ∧
        seq = { s.seq.aged with step := some .thread })) →
    ∃ t, exec .servoPeriodExpiry s = .next t ∧
      t = { s with seq := seq, gap := t.gap, gen := t.gen, coord := t.coord, port := t.port, now := s.now + 1
                   nest := t.nest
                   exe := { s.exe with task := .off, move := some { m with progress := m.length }
                                       position := m.target }
                   thr := s.thr.threading mode (s.part p).threadLimit, filters := s.filters.cutTip } ∧
      ∀ q, t.part q = s.credited s.exe.front q)

/-- A forward step of an expiry while CUTTING on a LINE walks by the step, writes the line's setpoint, moves the
front along, and sets the stuck count to 0; at the end of the segment the segment goes to the Retreat History, and
the rest of the step carries into a LINE that is cut at its start under the same condition and is otherwise lost
(R97, R98, R102, R106, R109, R114). A dry walk goes by the setup dry rate, to the first cut point at most, where a
recovery has reached its target point: CUTTING or SEPARATING follows, and the break point and the recovery record
are cleared. At the end of a dry segment its rest carries into a LINE that is dry at its start, whatever its
condition, and ends at the start of one that is cut there (R104, R105, R146). A seek walk goes as far as the queue holds entries, or to the seek point, where the
step becomes REPLAY or, at a cut point, the recovery ends; it writes no setpoint (R141). The part being worked is
credited (R27). The Retreat History holds at most 32 entries, an invariant of O5. It rests on the model's choices
of log 5, 11, 12, 14, 29. -/
def Obligations.ForwardStepWalksTheLine : Prop :=
  ∀ (s : State) (e : Entry) (rest : List Entry), s.seq.station = .run → s.seq.skipOwed = false → s.calm →
    s.bounded → s.exe.task = .path → s.exe.cursor = 0 → s.exe.rd = 0 → s.queue = e :: rest → e.kind = .line →
    let walked := fun (seq : Sequencer) (exe : Executor) (queue history : List Entry) (fetch : Fetcher) =>
      ∃ t, exec .servoPeriodExpiry s = .next t ∧
        t = { s with seq := seq, thr := s.thr.aged, gap := t.gap, gen := t.gen, coord := t.coord, port := t.port
                     now := s.now + 1, nest := t.nest, queue := queue, history := history, fetch := fetch
                     exe := { exe with stuck := 0 } } ∧
        (∀ q, some q ≠ s.seq.current → t.part q = s.part q) ∧
        ∀ p, s.seq.current = some p →
          t.part p = { s.credited exe.front p with
                       breakPoint := if s.seq.activity = some .recovering ∧ seq.activity ≠ some .recovering then none
                                     else (s.part p).breakPoint }
    let on_ := fun (e : Entry) (k : Nat) =>
      { s.exe with progress := k, front := some ⟨e.pass, e.ordinal, k⟩
                   position := linePoint e.start e.stop e.length k }
    let ends := fun p =>
      { s.seq.aged.noRecovery with
        activity := some (if (s.part p).pass = some .separation then .separating else .cutting) }
    let refilled :=
      { s.fetch with state := if s.fetch.state = .full then .running else s.fetch.state }
    (∀ d, s.seq.activity = some .cutting → s.exe.seek = none → e.dry = 0 →
      formStep s.gap.capture (s.condition e.cond) s.gen.level = .forward d → 0 < d →
      (s.exe.progress + d < e.length →
        walked s.seq.aged (on_ e (s.exe.progress + d)) s.queue s.history s.fetch) ∧
      (rest = [] → s.exe.progress < e.length → e.length ≤ s.exe.progress + d →
        walked s.seq.aged
          { s.exe with progress := 0, front := some ⟨e.pass, e.ordinal + 1, 0⟩, position := e.stop }
          [] (e :: s.history.take 31) refilled) ∧
      ∀ next more, rest = next :: more → next.kind = .line → s.exe.progress < e.length →
        e.length ≤ s.exe.progress + d → s.exe.progress + d - e.length < next.length →
        walked s.seq.aged
          (on_ next (if next.dry = 0 ∧ next.cond = e.cond then s.exe.progress + d - e.length else 0))
          rest (e :: s.history.take 31) refilled) ∧
    (s.exe.seek = none → e.dry = e.length → s.exe.progress < e.length →
      e.length ≤ s.exe.progress + s.setup.dry →
      let left := s.exe.progress + s.setup.dry - e.length
      (rest = [] →
        walked s.seq.aged
          { s.exe with progress := 0, front := some ⟨e.pass, e.ordinal + 1, 0⟩, position := e.stop }
          [] (e :: s.history.take 31) refilled) ∧
      ∀ next more, rest = next :: more → next.kind = .line →
        (next.dry ≤ next.length → left < next.dry →
          walked s.seq.aged (on_ next left) rest (e :: s.history.take 31) refilled) ∧
        (next.dry ≤ left → next.dry < next.length → s.seq.activity ≠ some .recovering →
          walked s.seq.aged (on_ next next.dry) rest (e :: s.history.take 31) refilled) ∧
        ∀ p, next.dry ≤ left → next.dry < next.length → s.seq.activity = some .recovering →
          s.seq.current = some p →
          walked (ends p) (on_ next next.dry) rest (e :: s.history.take 31) refilled) ∧
    (s.exe.seek = none → s.exe.progress < e.dry → e.dry ≤ e.length → 0 < s.setup.dry →
      (s.exe.progress + s.setup.dry < e.dry →
        walked s.seq.aged (on_ e (s.exe.progress + s.setup.dry)) s.queue s.history s.fetch) ∧
      ∀ p, e.dry ≤ s.exe.progress + s.setup.dry → e.dry < e.length → s.seq.activity = some .recovering →
        s.seq.current = some p →
        walked (ends p) (on_ e e.dry) s.queue s.history s.fetch) ∧
    ∀ g, s.exe.seek = some g → s.exe.progress < e.length →
      (rest = [] → (⟨e.pass, e.ordinal + 1, 0⟩ : PathPoint).before g = true → e.ordinal < g.ordinal →
        walked s.seq.aged { s.exe with progress := 0, front := some ⟨e.pass, e.ordinal + 1, 0⟩ }
          [] (e :: s.history.take 31) refilled) ∧
      ∀ p, s.seq.current = some p → s.seq.activity = some .recovering → g.pass = e.pass →
        g.ordinal = e.ordinal → s.exe.progress < g.progress → g.progress < e.length →
        let there := { s.exe with progress := g.progress, front := some g, seek := none }
        (g.progress < e.dry → walked { s.seq.aged with step := some .replay } there s.queue s.history s.fetch) ∧
        (e.dry ≤ g.progress → walked (ends p) there s.queue s.history s.fetch)

/-- A STOP or FAULT entry at the queue head, taken at an expiry. A stop of a pass that is not the last starts the
next pass at the stop, on its own contour and initial condition, with the break point of a recovery as dry target.
STOP_TAB of the last pass records the tab point and begins the wire cut. STOP_END of the last pass opens the drop
window: stage WINDOW, DROP_WATCH and the full drop time, with the PART report of a part that was ACTIVE. A recovery
ends at the stop of the last pass. A FAULT entry skips the part with its cause and begins the wire cut (R26, R28,
R30, R38, R57, R76, R103, R144, R146). The part's progress takes the stop, and the position is the end of the last
segment completed (R27, R97). It rests on the model's choices of log 5, 11, 12, 29. -/
def Obligations.StopsAndFaultsEndThePass : Prop :=
  ∀ (s : State) (e : Entry) (p : PartNo), s.seq.station = .run → s.seq.skipOwed = false → s.calm →
    s.exe.task = .path → s.exe.seek = none → s.exe.cursor = 0 → s.queue = [e] → s.seq.current = some p →
    (s.part p).state = .active ∨ (s.part p).state = .separating → s.fetch.state ≠ .full →
    let there := (s.history.head?.map Entry.stop).getD s.exe.position
    let stop : PathPoint := ⟨e.pass, e.ordinal, 0⟩
    let seq := if s.seq.activity = some .recovering then s.seq.aged.noRecovery else s.seq.aged
    let point := if s.seq.activity = some .recovering then none else (s.part p).breakPoint
    let clock := { s with now := s.now + 1 }
    let ended := fun (t u : State) (r : PartRecord) =>
      exec .servoPeriodExpiry s = .next t ∧
        t = { u with gap := t.gap, gen := t.gen, coord := t.coord, port := t.port, now := s.now + 1
                     nest := t.nest } ∧
        (∀ q, q ≠ p → t.part q = s.part q) ∧ t.part p = r
    (∀ (pass next : Pass) (i : PathIndex) (c : CondNo), e.kind = .stopTab ∨ e.kind = .stopEnd →
      (s.part p).pass = some pass → pass.next = some next → pass.code < (s.part p).passCount →
      (s.part p).contour.get next = some i.val → (s.part p).initial.get next = some c.val →
      ∃ t, ended t
        { s with
          seq := { s.seq.aged with passStart := some e.stop }, thr := s.thr.aged, queue := [], history := []
          fetch := ⟨.running, some p, some next, some i, [], ⟨0, 0⟩, some e.stop, some c,
                    if s.seq.activity = some .recovering then
                      (s.part p).breakPoint.filter fun g => next.code ≤ g.pass.code
                    else none, 0⟩
          exe := { s.exe.atStart next none with position := there } }
        { s.credited (some stop) p with pass := some next }) ∧
    (∀ i, (∀ pass, (s.part p).pass = some pass → (s.part p).passCount ≤ pass.code) →
      (e.kind = .stopTab → s.fetch.position = some i → s.thr.request = .off →
        s.filters.cutterDone.level = .clear →
        ∃ t, ended t
          { s with
            seq := { seq with activity := some .wireCutting }, thr := s.thr.severing, filters := s.filters.cutTip
            queue := [], exe := { s.exe with task := .off, front := some stop, position := there } }
          { s.credited (some stop) p with breakPoint := point, tab := some ⟨e.stop, i, e.cond⟩ }) ∧
      (e.kind = .stopEnd →
        ∃ t, ended t
          { s with
            seq := { seq with activity := some .dropWatch, window := some s.setup.dropTime }, thr := s.thr.aged
            queue := [], exe := { s.exe with task := .off, front := some stop, position := there }
            reports := if (s.part p).state = .separating then s.reports
                       else (queueReport .part (some p) none (4 + 256 * passCode (s.part p).pass) clock).reports }
          { s.credited (some stop) p with breakPoint := point, state := .separating, stage := .window })) ∧
    ∀ c, e.kind = .fault c → s.thr.request = .off → s.filters.cutterDone.level = .clear →
      ∃ t, ended t
        { s with
          seq := { s.seq.aged.ended .run with activity := some .wireCutting, owed := s.seq.owed
                                              window := s.seq.aged.window }
          thr := s.thr.severing, filters := s.filters.cutTip, queue := [], history := []
          fetch := Fetcher.flushed, exe := s.exe.cleared
          reports := (queueReport .part (some p) (some c.cause) (7 + 256 * passCode (s.part p).pass) clock).reports }
        { s.credited s.exe.front p with state := .skipped, cause := some c.cause, stage := .off
                                        breakPoint := none }

/-- The tests of R99 in their order, and the scaling of R100; d never exceeds d0, and d0 never exceeds Fmax.
-/
def Obligations.StepIsFormedFromTheCapture : Prop :=
  ∀ (c : Capture) (k : Condition) (l : Nat),
    let n := c.normal + c.arc + c.short
    let e := c.mean - k.vref
    let d0 := k.fmax * min e (240 - k.vref) / (240 - k.vref)
    (l = 0 → formStep c k l = .forward 0) ∧
    (0 < l → n = 0 → formStep c k l = .forward (k.fmax * min l k.lreq / k.lreq)) ∧
    (0 < l → 0 < n → n ≤ 4 * c.short → formStep c k l = .retreat) ∧
    (0 < l → 4 * c.short < n → c.mean ≤ k.vref → formStep c k l = .forward 0) ∧
    (0 < l → 4 * c.short < n → k.vref < c.mean → formStep c k l = .forward (d0 * min l k.lreq / k.lreq)) ∧
    (k.vref ≤ 200 → 40 ≤ 240 - k.vref ∧ d0 ≤ k.fmax) ∧
    (0 < k.lreq → ∀ x, x * min l k.lreq / k.lreq ≤ x ∧
      (x = 0 ∨ x * min l k.lreq < k.lreq → x * min l k.lreq / k.lreq = 0))

/-- A retreat walks back along the history by exactly the distance it moves; a crossing into the far store, at
position 5 or more, ends it at that entry's end, so a walk makes one such crossing at most, and a crossing into
the near set makes no stop. It is exhausted only at the start of the oldest path held with distance to go, and
never takes the retreat depth past 1000 Lr (R111, R112, R113). -/
def Obligations.RetreatWalksBackInsideItsLimit : Prop :=
  (∀ (behind : List Entry) (c p a : Nat),
    let w := walkBack behind c p a
    w.left ≤ a ∧ c ≤ w.cursor ∧ w.cursor ≤ c + behind.length ∧
    (a - w.left) + w.progress = p + lengths (behind.take (w.cursor - c)) ∧
    (w.exhausted = true → 0 < w.left ∧ w.progress = 0 ∧ w.cursor = c + behind.length) ∧
    (0 < w.left → w.exhausted = false → c < w.cursor ∧ 5 ≤ w.cursor ∧
      (behind[w.cursor - c - 1]?.map Entry.length) = some w.progress) ∧
    (c < w.cursor → 5 ≤ w.cursor → w.cursor = max 5 (c + 1) ∧ w.exhausted = false ∧
      (behind[w.cursor - c - 1]?.map Entry.length) = some w.progress) ∧
    (∀ e more, behind = e :: more → p < a → 4 ≤ c → w = ⟨c + 1, e.length, a - p, false⟩) ∧
    (∀ e more, behind = e :: more → p < a → c < 4 → w = walkBack more (c + 1) e.length (a - p)) ∧
    (a ≤ p → w = ⟨c, p - a, 0, false⟩)) ∧
  ∀ (k : Condition) (s : State) (e : Entry) (rest : List Entry), s.queue = e :: rest →
    (retreatTaken k s).1.exe.rd ≤ max s.exe.rd (1000 * (s.condition e.cond).lr) ∧
    (retreatTaken k s).1.exe.front = s.exe.front ∧ (retreatTaken k s).1.queue = s.queue ∧
    (retreatTaken k s).1.history = s.history

/-- The rounding of the spec is to the nearest integer with ties away from zero; the setpoints of a LINE are
its rounded points, from the start to the end, and never run backward; a LINE's length is the nearest
integer to the distance (R7, R106). It rests on the model's choices of log 14. -/
def Obligations.LinesAreRoundedToTheNearest : Prop :=
  (∀ (num : Int) (den : Nat), 0 < den →
    2 * (roundDiv num den * den - num).natAbs ≤ den ∧
    (2 * (roundDiv num den * den - num).natAbs = den → num.natAbs ≤ (roundDiv num den * den).natAbs)) ∧
  (∀ (a b : Point) (len k : Nat), 0 < len → k ≤ len →
    linePoint a b len 0 = a ∧ linePoint a b len len = b ∧
    2 * (len * ((linePoint a b len k).x - a.x) - (b.x - a.x) * k).natAbs ≤ len ∧
    2 * (len * ((linePoint a b len k).y - a.y) - (b.y - a.y) * k).natAbs ≤ len ∧
    ∀ j, j ≤ k →
      (a.x ≤ b.x → (linePoint a b len j).x ≤ (linePoint a b len k).x) ∧
      (b.x ≤ a.x → (linePoint a b len k).x ≤ (linePoint a b len j).x) ∧
      (a.y ≤ b.y → (linePoint a b len j).y ≤ (linePoint a b len k).y) ∧
      (b.y ≤ a.y → (linePoint a b len k).y ≤ (linePoint a b len j).y)) ∧
  ∀ a b : Point,
    let n := (b.x - a.x) * (b.x - a.x) + (b.y - a.y) * (b.y - a.y)
    let r : Int := lineLength a b
    n ≤ r * r + r ∧ (r = 0 ∨ r * r - r < n)

/-- A pulse measurement is classed by the tests of R81 in their order and recorded in the period in progress
as R82 gives it; in POWER_DOWN it is not read (R180). -/
def Obligations.PulsesAreClassedAndCounted : Prop :=
  ∀ (delay voltage : Byte) (s : State),
    let d := delay.toNat
    let v := voltage.toNat
    let g := s.gap
    (s.seq.station = .powerDown → exec (.pulseMeasurement delay voltage) s = .next s) ∧
    (s.seq.station ≠ .powerDown →
      (d = 255 → exec (.pulseMeasurement delay voltage) s =
        .next { s with gap := { g with openSum := g.openSum + v, openTally := g.openTally + 1 } }) ∧
      (d ≠ 255 → v < 30 → exec (.pulseMeasurement delay voltage) s =
        .next { s with gap := { g with short := min (g.short + 1) 255
                                       satShort := g.satShort || decide (255 ≤ g.short) } }) ∧
      (d < 5 → 30 ≤ v → exec (.pulseMeasurement delay voltage) s =
        .next { s with gap := { g with arc := min (g.arc + 1) 255, satArc := g.satArc || decide (255 ≤ g.arc)
                                       burnSum := g.burnSum + v, burnTally := g.burnTally + 1 } }) ∧
      (5 ≤ d → d ≠ 255 → 30 ≤ v → exec (.pulseMeasurement delay voltage) s =
        .next { s with gap := { g with normal := min (g.normal + 1) 255
                                       satNormal := g.satNormal || decide (255 ≤ g.normal)
                                       burnSum := g.burnSum + v, burnTally := g.burnTally + 1 } }))

/-! ### Path fetching -/

/-- An EMISSION that finds a LINE to a point in range, in the travel window and not where reading stands, or an
ARC whose end and centre lie in range, whose radii pass the tests of R8 and whose end lies in the window, places it
at the tail of the queue with its centre, length, condition, ordinal and dry length, and reads on at the next
record; FULL follows the sixteenth entry. A point out of range places COORD_RANGE, an arc whose radius is short of
1000 nm or whose radii differ by more than 1000 nm ARC_GEOMETRY, and an end outside the window OUTSIDE_TRAVEL (R5,
R7, R8, R64, R67, R71, R72, R73, R75). Clockwise and counter-clockwise sweeps make a full turn together, a full
circle is one turn, an end on the same ray gives no length, and an arc's points begin and end as written (R8,
R107). An EMISSION that reads END at depth 0 places STOP_END and is DONE, one that reads an EMPTY or unassigned
record places a FAULT entry with INVALID_RECORD and is FAULTED, and one of a Fetcher that is not RUNNING, or with
the queue full, changes nothing (R64, R67, R69, R70, R72). It rests on the model's choices of log 15, and of log
37: the fetch position after STOP_END is the record after the END. -/
def Obligations.EmissionPlacesSegmentsAndStops : Prop :=
 (∀ (s : State) (p : PartNo) (pass : Pass) (i : PathIndex) (start : Point) (c : CondNo),
    s.fetch.state = .running → s.queue.length < 16 → s.fetch.part = some p → s.fetch.pass = some pass →
    s.fetch.position = some i → s.fetch.endPoint = some start → s.fetch.cond = some c →
    let at_ := fun (x y : Int) => (⟨(s.part p).origin.x + s.fetch.offset.x + x,
                                    (s.part p).origin.y + s.fetch.offset.y + y⟩ : Point)
    let placed := fun (kind : EntryKind) (stop : Point) (centre : Option Point) (len : Nat) =>
      exec .emission s = .next { s with
        queue := s.queue ++ [⟨kind, start, stop, centre, len, c, p, pass, s.fetch.ordinal,
                              dryLength s.fetch.target pass s.fetch.ordinal len⟩]
        fetch := { s.fetch with
                   state := if s.queue.length = 15 then .full else .running
                   position := some (i + 1), endPoint := some stop, ordinal := s.fetch.ordinal + 1
                   target := targetAfter s.fetch.target pass s.fetch.ordinal } }
    let faulted := fun (cause : FetchFault) =>
      exec .emission s = .next { s with
        queue := s.queue ++ [⟨.fault cause, start, start, none, 0, c, p, pass, s.fetch.ordinal, 0⟩]
        fetch := { s.fetch with state := .faulted } }
    (∀ x y, s.record i = .line x y →
      ((at_ x y).inRange = false → faulted .coordRange) ∧
      ((at_ x y).inRange = true → at_ x y ≠ start → s.setup.inWindow (at_ x y) = false →
        faulted .outsideTravel) ∧
      ((at_ x y).inRange = true → at_ x y ≠ start → s.setup.inWindow (at_ x y) = true →
        s.fetch.ordinal ≤ 65534 → placed .line (at_ x y) none (lineLength start (at_ x y)))) ∧
    (∀ cw x y cx cy, s.record i = .arc cw x y cx cy →
      let stop := at_ x y
      let centre := at_ cx cy
      (stop.inRange = false ∨ centre.inRange = false → faulted .coordRange) ∧
      (stop.inRange = true → centre.inRange = true →
        (arcRadiiFail start stop centre = true ∨ arcLength cw start stop centre = 0 → faulted .arcGeometry) ∧
        (arcRadiiFail start stop centre = false → 0 < arcLength cw start stop centre →
          (s.setup.inWindow stop = false → faulted .outsideTravel) ∧
          (s.setup.inWindow stop = true → s.fetch.ordinal ≤ 65534 →
            placed (if cw then .arcCw else .arcCcw) stop (some centre) (arcLength cw start stop centre))))) ∧
    (s.record i = .fin → s.fetch.stack = [] →
      exec .emission s = .next { s with
        queue := s.queue ++ [⟨.stopEnd, start, start, none, 0, c, p, pass, s.fetch.ordinal, 0⟩]
        fetch := { s.fetch with state := .done, position := some (i + 1), target := none } }) ∧
    (s.record i = .empty ∨ s.record i = .unassigned → faulted .invalidRecord)) ∧
 (∀ start stop centre : Point,
    (∀ r e : Nat, distSq start centre = r * r → distSq stop centre = e * e →
      (arcRadiiFail start stop centre = true ↔ r < 1000 ∨ e + 1000 < r ∨ r + 1000 < e)) ∧
    (distSq start centre < 1000000 → arcRadiiFail start stop centre = true) ∧
    (∀ cw, arcSweep cw start start centre = fixTurn) ∧
    (start ≠ stop → stop ≠ centre →
      let a := start.sub centre
      let b := stop.sub centre
      (a.x * b.y = a.y * b.x → 0 < a.x * b.x + a.y * b.y → ∀ cw, arcLength cw start stop centre = 0) ∧
      (0 < arcSweep false start stop centre →
        arcSweep true start stop centre + arcSweep false start stop centre = fixTurn)) ∧
    ∀ cw len, 0 < len → arcPoint cw start stop centre len 0 = start ∧ arcPoint cw start stop centre len len = stop) ∧
 ∀ s : State, s.fetch.state ≠ .running ∨ 16 ≤ s.queue.length → exec .emission s = .next s

/-- CALL, END, COND and TAB move the reading as R68, R69 and R70 give it, and the call depth never exceeds
15. -/
def Obligations.CallsReturnAndStayWithinDepth : Prop :=
  ∀ (e : Emission) (p : ReadPoint),
    (∀ target reps dx dy, p.stack.length = 15 → takeRecord e p (.call target reps dx dy) = .fault .nesting) ∧
    (∀ target reps dx dy, p.stack.length < 15 → 4096 ≤ target →
      takeRecord e p (.call target reps dx dy) = .fault .invalidRecord) ∧
    (∀ (target : PathIndex) (reps : Nat) (dx dy : Int), p.stack.length < 15 →
      takeRecord e p (.call target.val reps dx dy) =
        .on { p with position := target
                     stack := ⟨p.position + 1, target, if reps = 0 then 256 else reps, 0, ⟨dx, dy⟩, p.offset⟩ ::
                       p.stack }) ∧
    (∀ f rest, p.stack = f :: rest → f.index + 1 < f.repeats →
      takeRecord e p .fin =
        .on { p with position := f.target
                     offset := ⟨f.base.x + (f.index + 1 : Nat) * f.step.x, f.base.y + (f.index + 1 : Nat) * f.step.y⟩
                     stack := { f with index := f.index + 1 } :: rest }) ∧
    (∀ f rest, p.stack = f :: rest → f.repeats ≤ f.index + 1 →
      takeRecord e p .fin = .on { p with position := f.ret, offset := f.base, stack := rest }) ∧
    (∀ c : CondNo, takeRecord e p (.cond c.val) = .on { p with position := p.position + 1, cond := c }) ∧
    (∀ index, 16 ≤ index → takeRecord e p (.cond index) = .fault .invalidRecord) ∧
    (p.stack = [] → e.pass ≠ .separation → e.record.retain = true →
      takeRecord e p .tab = .stop true { p with position := p.position + 1 }) ∧
    (p.stack ≠ [] ∨ e.pass = .separation ∨ e.record.retain = false →
      takeRecord e p .tab = .on { p with position := p.position + 1 }) ∧
    ∀ r q, p.stack.length ≤ 15 → takeRecord e p r = .on q → q.stack.length ≤ 15

/-- The dry length of every segment that an EMISSION places, against the dry target held (R73). -/
def Obligations.PlacedSegmentsHaveTheirDryLength : Prop :=
  ∀ s t : State, exec .emission s = .next t → t ≠ s →
    ∃ e, t.queue = s.queue ++ [e] ∧
      (e.isPath = true →
        (s.fetch.target = none → e.dry = 0) ∧
        ∀ g, s.fetch.target = some g →
          (e.pass.code < g.pass.code → e.dry = e.length) ∧
          (e.pass = g.pass → e.ordinal < g.ordinal → e.dry = e.length) ∧
          (e.pass = g.pass → e.ordinal = g.ordinal → e.dry = min g.progress e.length) ∧
          (e.pass = g.pass → g.ordinal < e.ordinal → e.dry = 0) ∧
          (g.pass.code < e.pass.code → e.dry = 0))

/-! ### Sensor inputs and the drop window -/

/-- A filtered level changes when two consecutive samples read the new level, and a single sample that
differs, followed by one that agrees, changes nothing; an input that comes to its expected level gives no
event; and in IDLE a change of DROP, LIMIT or WIRE_LOW only updates the expected level (R31, R54, R134,
R135). It rests on the model's choices of log 8. -/
def Obligations.InputsNeedTwoSamples : Prop :=
  (∀ (f : Filter) (l : Level), (f.sample l).last = some l ∧ (f.sample l).expected = f.expected ∧
    (f.last = some l → (f.sample l).level = l) ∧ (f.last ≠ some l → (f.sample l).level = f.level)) ∧
  (∀ (i : Input) (l m : Level) (s : State), s.seq.station ≠ .powerDown → m ≠ l →
    (s.filters.get i).level = l → (s.filters.get i).last = some l →
    exec (i.samples m l) s = .next s) ∧
  (∀ (i : Input) (m : Level) (s : State), s.seq.station ≠ .powerDown → (s.filters.get i).expected = m →
    exec (i.samples m m) s = .next { s with filters := s.withFilter i (Filter.steady m m) }) ∧
  ∀ (i : Input) (m : Level) (s : State), s.seq.station = .idle → i = .drop ∨ i = .limit ∨ i = .wireLow →
    exec (i.samples m m) s = .next
      { s with filters := s.withFilter i
                 (Filter.steady m (if (s.filters.get i).level = m then (s.filters.get i).expected else m)) }

/-- LIMIT, WIRE_LOW and the CUT_TIP timeout halt the station in RUN and HELD with TRAVEL_LIMIT,
WIRE_EXHAUSTED and WIRE_CUT_FAILED: the work stopped, the current part interrupted and both reported, the
lock set, the wire state and the tension output kept (R10, R37, R54, R58, R122). A halt leaves the station
at rest: HALTED with its code latched, no work in any unit and no claim (R58). It rests on the model's
choices of log 8. -/
def Obligations.HaltsStopTheStation : Prop :=
 (∀ s : State, s.seq.station = .run ∨ s.seq.station = .held → s.raised = [] → s.walking = false →
    (s.filters.limit.idleClear → ∃ t, exec (.limitInput .asserted .asserted) s = .next t ∧
      State.settles s
        { s.afterHalt .travelLimit with
          filters := ({ s.filters with limit := Filter.steady .asserted .asserted } : Filters).wireFollowed.limitsFollowed
        } t) ∧
    (s.filters.wireLow.idleClear → ∃ t, exec (.wireLowInput .asserted .asserted) s = .next t ∧
      State.settles s
        { s.afterHalt .wireExhausted with
          filters := ({ s.filters with wireLow := Filter.steady .asserted .asserted } : Filters).wireFollowed.limitsFollowed
        } t) ∧
    (s.thr.phase = .cutTip → s.thr.timer.isSome → ∃ t, exec .cutTipTimeout s = .next t ∧
      State.settles s (s.afterHalt .wireCutFailed) t)) ∧
 (∀ (s t : State) (code : HaltCode), State.settles s (s.afterHalt code) t → s.walking = false →
    t.haltedAtRest ∧ t.seq.halt = some code ∧ t.gen.on = false ∧ t.gen.level = 0 ∧ t.locks = s.locks ∧
      t.thr.wire = s.thr.wire ∧ t.thr.tension = s.thr.tension ∧ t.phase = .halted)

/-- A drop in RUN: in an open window the part is RELEASED with cause absent and reported NORMAL; with no
part being worked it is counted, to at most 32, and reported DROP_UNATTRIBUTED; on an ACTIVE part it is
EARLY_DROP, and the cut makes its tension check on a THREADED wire. The consecutive-skip count is 0 after a
release (R32, R34, R35, R39, R132). DROP_WINDOW_EXPIRY in RUN: with an unattributed drop counted the count
falls by 1 and the part is RELEASED with PRESUMED and the consecutive-skip count set to 0; with none it is
HUNG with NO_DROP and that count stands. A wire cut follows; in HELD it is owed (R33, R36, R39, R47). It
rests on the model's choices of log 8. -/
def Obligations.DropsAndWindowExpiryDecideTheOutcome : Prop :=
 (∀ s : State, s.seq.station = .run → s.calm → s.filters.drop.idleClear →
    s.filters.cutterDone.level = .clear → s.thr.request = .off →
    (∀ p, s.seq.current = some p → (s.part p).state = .separating → (s.part p).stage = .window →
      ∃ t, exec (.dropInputChange .asserted .asserted) s = .next t ∧
        State.settles s
          { s with
            nest := t.nest, reports := t.reports
            seq := { s.seq.ended .run with activity := some .wireCutting, owed := s.seq.owed, skipCount := 0 }
            thr := { s.thr.cutting with request := .cut, tensionCheck := false }
            filters := ({ s.filters with drop := Filter.steady .asserted .asserted } : Filters).cutTip } t ∧
        (∀ q, q ≠ p → t.part q = s.part q) ∧
        t.part p = { s.part p with state := .released, cause := none, stage := .off, breakPoint := none } ∧
        (s.reports.items.length < 32 →
          t.reports.items = s.reports.items ++
            [⟨.part, some p, some .normal, 5 + 256 * passCode (s.part p).pass, s.now % 2 ^ 32⟩])) ∧
    (s.workingPart = none →
      ∃ t, exec (.dropInputChange .asserted .asserted) s = .next t ∧
        State.settles s
          { s with
            filters := { s.filters with drop := Filter.steady .asserted .asserted }
            seq := { s.seq with dropCount := min (s.seq.dropCount + 1) 32 }
            reports := (queueReport .dropUnattributed none none (min (s.seq.dropCount + 1) 32) s).reports } t) ∧
    (∀ p, s.seq.current = some p → (s.part p).state = .active → s.thr.wire = .threaded →
      ∃ t, exec (.dropInputChange .asserted .asserted) s = .next t ∧
        State.settles s
          { s with
            nest := t.nest, reports := t.reports
            queue := [], history := [], fetch := Fetcher.flushed, exe := s.exe.cleared
            seq := { s.seq.ended .run with activity := some .wireCutting, owed := s.seq.owed, skipCount := 0
                                           window := s.seq.window }
            thr := { s.thr with request := .cut, tensionCheck := true, timer := some 300 }
            filters := { s.filters with drop := Filter.steady .asserted .asserted } } t ∧
        (∀ q, q ≠ p → t.part q = s.part q) ∧
        t.part p = { s.part p with state := .released, cause := some .early, stage := .off
                                   breakPoint := none } ∧ t.gen.on = false)) ∧
 (∀ (s : State) (p : PartNo), s.seq.station = .run ∨ s.seq.station = .held → s.calm →
    s.seq.current = some p → s.seq.window.isSome → (s.part p).state = .separating →
    (s.part p).stage = .window → s.filters.cutterDone.level = .clear → s.thr.request = .off →
    let credited := 0 < s.seq.dropCount
    ∃ t, exec .dropWindowExpiry s = .next t ∧
      State.settles s
        { s with
          nest := t.nest, reports := t.reports
          seq := { s.seq.ended s.seq.station with
                   activity := if s.seq.station = .held then s.seq.activity else some .wireCutting
                   owed := if s.seq.station = .held then some .wireCut else s.seq.owed
                   dropCount := s.seq.dropCount - 1
                   skipCount := if credited then 0 else s.seq.skipCount }
          thr := if s.seq.station = .held then s.thr
                 else { s.thr.cutting with request := .cut, tensionCheck := false }
          filters := if s.seq.station = .held then s.filters else s.filters.cutTip } t ∧
      (∀ q, q ≠ p → t.part q = s.part q) ∧
      t.part p = { s.part p with
                   state := if credited then .released else .hung
                   cause := some (if credited then .presumed else .noDrop)
                   stage := .off, breakPoint := none })

/-! ### Threading -/

/-- CUTTER_DONE asserted ends the stroke. A thread in RUN goes on to ANNEAL_WAIT while A_P or the anneal
permit is short of 6, and to ANNEAL at once when neither is; in HELD it is held, uncounted; the cut request
of a recovery's CUT step taken in HELD leaves ROUTE_STEP owed, and taken in RUN leads to the move to the start hole
(HOLE route) or the tab point (TAB route). The cut of an ACTIVE part's last STOP_TAB makes it TABBED with its
report, clears the consecutive-skip count and takes up the next part; the cut after an outcome takes up the next
part, or ends the job (R23, R24, R28, R39, R44, R47, R122, R123, R124, R130, R132, R142, R145). It rests on the
model's choices of log 8, and of log 43: the tension check is no after a cut request completes. -/
def Obligations.StrokeEndLeadsOn : Prop :=
  ∀ s : State, s.raised = [] → s.thr.phase = .cutTip → s.thr.cutter = true → s.filters.cutterDone.idleClear →
    let done := { s.filters with cutterDone := Filter.steady .asserted .asserted }
    let t0 := { s.thr with cutter := false, timer := none }
    let cut := { t0 with phase := .idle, request := .off, tensionCheck := false }
    (s.thr.request = .thread → s.seq.station = .run → s.seq.skipOwed = false →
      s.powerAllowance < 6 ∨ s.ceiling < 6 →
      ∃ t, exec (.cutterDone .asserted .asserted) s = .next t ∧
        State.settles s { s with filters := done, thr := { t0 with phase := .annealWait } } t) ∧
    (s.thr.request = .thread → s.seq.station = .run → s.seq.skipOwed = false →
      6 ≤ s.powerAllowance → 6 ≤ s.ceiling →
      ∃ t, exec (.cutterDone .asserted .asserted) s = .next t ∧
        State.settles s
          { s with filters := { done with supplySag := done.supplySag.followed }
                   thr := { t0 with phase := .anneal, anneal := true, timer := some 1200
                                    sagBlank := some 2 } } t) ∧
    (s.thr.request = .thread → s.seq.station = .held → s.seq.skipOwed = false →
      ∃ t, exec (.cutterDone .asserted .asserted) s = .next t ∧
        State.settles s { s with filters := done, thr := { t0 with phase := .idle, held := true } } t) ∧
    (∀ p, s.thr.request = .cut → s.seq.skipOwed = false →
      s.seq.current = some p → s.seq.activity = some .recovering → s.seq.step = some .cut →
      (s.seq.station = .held →
        ∃ t, exec (.cutterDone .asserted .asserted) s = .next t ∧
          State.settles s
            { s with filters := done, seq := { s.seq with owed := some .routeStep }, thr := cut } t) ∧
      ∀ at_, s.seq.station = .run →
        (s.seq.route = .hole ∧ at_ = (s.part p).startHole) ∨
          (s.seq.route = .tab ∧ (s.part p).tab.map TabPoint.at_ = some at_) →
        ∃ t, exec (.cutterDone .asserted .asserted) s = .next t ∧
          State.settles s
            { s with filters := done, seq := { s.seq with step := some .move }, thr := cut
                     exe := s.exe.bound at_ } t) ∧
    (∀ p n, s.thr.request = .cut → s.seq.station = .run → s.seq.skipOwed = false → s.seq.current = some p →
      s.seq.activity = some .wireCutting → (s.part p).state = .active → s.selects n → (s.part n).state = .uncut →
      ∃ t, exec (.cutterDone .asserted .asserted) s = .next t ∧
        State.settles s
          { s with
            filters := done, thr := cut, exe := s.exe.bound (s.part n).startHole
            seq := { s.seq.noRecovery with activity := some .moving, current := some n, passStart := none
                                           skipCount := 0, skipOwed := false }
            nest := t.nest
            reports := (queueReport .part (some p) none (3 + 256 * passCode (s.part p).pass) s).reports } t ∧
        (∀ q, q ≠ p → t.part q = s.part q) ∧ t.part p = { s.part p with state := .tabbed }) ∧
    (s.thr.request = .cut → s.seq.station = .run → s.seq.current = none →
      (∀ n, s.selects n → (s.part n).state = .uncut →
        ∃ t, exec (.cutterDone .asserted .asserted) s = .next t ∧
          State.settles s
            { s with filters := done, thr := cut, exe := s.exe.bound (s.part n).startHole
                     seq := { s.seq with activity := some .moving, current := some n } } t) ∧
      ((∀ q, (s.part q).enabled = true →
          (s.part q).state = .released ∨ (s.part q).state = .hung ∨ (s.part q).state = .skipped) →
        ∃ t, exec (.cutterDone .asserted .asserted) s = .next t ∧
          State.settles s
            { s with filters := done.limitsFollowed, thr := cut, locks := []
                     seq := { s.seq.ended .idle with window := s.seq.window }
                     reports := (queueReport .jobEnd none none s.gen.total s).reports } t))

/-- SAG_BLANK_EXPIRY begins the sag watch, ANNEAL_EXPIRY ends the anneal and takes a new claim for the jet
with the stamp after C_max, and TENSION_CHECK_EXPIRY begins the cut's CUT_TIP (R124, R125, R132, R163). Leaving
ANNEAL by its end or by a sag makes a notice due, whatever follows in the same event (R124, R156), in every state that
meets the invariant of O8 and in which a skip is owed only to a current part. -/
def Obligations.ThreadingTimersGoOn : Prop :=
 (∀ s : State, s.raised = [] →
    (s.thr.phase = .anneal → s.thr.sagBlank.isSome → s.filters.supplySag.level = .clear →
      ∃ t, exec .sagBlankExpiry s = .next t ∧
        State.settles s
          { s with thr := { s.thr with sagBlank := none }
                   filters := { s.filters with supplySag := { s.filters.supplySag with expected := .clear } } } t) ∧
    (s.thr.phase = .anneal → s.thr.timer.isSome → s.seq.skipOwed = false → s.coord.jet = .off →
      ∃ t, exec .annealExpiry s = .next t ∧
        State.settles s
          { s with thr := { s.thr with anneal := false, phase := .jetClaim, timer := some 120000
                                       sagBlank := none }
                   coord := { s.coord with jet := .pending, stamp := (s.coord.cmax + 1) % 65536
                                           completed := false }
                   filters := { s.filters with supplySag := s.filters.supplySag.followed } } t) ∧
    (s.thr.request = .cut → s.thr.tensionCheck = true → s.thr.phase = .idle ∨ s.thr.phase = .done →
      s.thr.timer.isSome → s.filters.cutterDone.level = .clear →
      ∃ t, exec .tensionCheckExpiry s = .next t ∧
        State.settles s { s with thr := s.thr.cutting, filters := s.filters.cutTip } t)) ∧
  ∀ s : State, s.threaderSafe → (s.seq.skipOwed = true → s.seq.current.isSome = true) → s.thr.phase = .anneal →
    s.seq.station ≠ .powerDown → s.port.tx ≠ .silent →
    (s.thr.timer.isSome → ∃ t, exec .annealExpiry s = .next t ∧ t.port.due = true ∧ t.port.tx ≠ .quiet) ∧
    (s.thr.sagBlank = none → s.filters.supplySag.idleClear →
      ∃ t, exec (.supplySag .asserted .asserted) s = .next t ∧ t.port.due = true ∧ t.port.tx ≠ .quiet)

/-- A sag, the jet wait limit, the FEED timeout and the TENSION timeout each fail the attempt: counted,
reported with its cause, mode and count, the jet released, and with attempts left the next CUT_TIP entered
(R124, R125, R126, R127, R128). The last attempt of a part's first thread, by any of the four, below the third such
skip in a row: SKIPPED with THREAD_LIMIT, the consecutive-skip count raised by 1, and the wire cut begun; at the
third the station halts with SKIP_RUN and no cut is made (R38, R39, R128). It rests on the model's choices of log
8. -/
def Obligations.FailedAttemptsAreRetriedOrEndTheThread : Prop :=
  ∀ (s u : State) (c : Instr) (f : ThreadFailure), s.seq.station ≠ .powerDown → s.raised = [] →
    s.seq.skipOwed = false → s.filters.cutterDone.level = .clear →
    ((s.thr.phase = .anneal ∧ s.thr.sagBlank = none ∧ s.filters.supplySag.idleClear ∧
        c = .supplySag .asserted .asserted ∧ f = .annealSag ∧
        u = { s with filters := { s.filters with supplySag := Filter.steady .asserted .clear } }) ∨
      (s.thr.phase = .jetClaim ∧ s.thr.timer.isSome = true ∧ c = .jetWaitLimitExpiry ∧ f = .jetWait ∧ u = s) ∨
      (s.thr.phase = .feed ∧ s.thr.timer.isSome = true ∧ c = .feedTimeout ∧ f = .noContact ∧ u = s) ∨
      (s.thr.phase = .tension ∧ s.thr.timer.isSome = true ∧ c = .tensionTimeout ∧ f = .noTension ∧ u = s)) →
    (s.thr.attempts + 1 < s.thr.limit.getD 0 →
      ∃ t, exec c s = .next t ∧ State.settles s (u.afterRetry f) t) ∧
    ∀ p, s.seq.station = .run → s.seq.current = some p → (s.part p).state = .uncut →
      s.seq.activity = some .threading → s.thr.limit.getD 0 ≤ s.thr.attempts + 1 → s.walking = false →
      (s.seq.skipCount < 2 →
        ∃ t, exec c s = .next t ∧ State.settles s (u.afterLastAttempt f p) t) ∧
      (2 ≤ s.seq.skipCount →
        ∃ t, exec c s = .next t ∧ t.haltedAtRest ∧ t.seq.halt = some .skipRun ∧
          t.seq.skipCount = 3 ∧ (t.part p).state = .skipped ∧ (t.part p).cause = some .threadLimit ∧
          t.thr.cutter = false)

/-- CONTACT in FEED closes the valve, stops the feed, releases the jet and enters TENSION (R126, R127,
R166). TENSION_OK in TENSION completes the thread: the wire is THREADED and its break watch begun. An UNCUT part at
its start hole becomes ACTIVE, with pass 1 started at the start hole on its contour and initial condition; a
SEPARATING part at its tab point starts pass S there; a recovery starts pass 1 (HOLE) or pass S (TAB) with the break
point as dry target and the step REPLAY, or (SLOT) the current pass at its start point with the rethread point as
seek point and the step SEEK (R18, R25, R29, R65, R96, R127, R141, R142, R145). It rests on the model's choices of
log 8. -/
def Obligations.ContactAndTensionCompleteTheThread : Prop :=
 (∀ s : State, s.seq.station ≠ .powerDown → s.raised = [] → s.seq.skipOwed = false → s.thr.phase = .feed →
    s.filters.contact.idleClear → s.filters.tensionOk.level = .clear →
    ∃ t, exec (.contact .asserted .asserted) s = .next t ∧
      State.settles s
        { s with
          thr := { s.thr with valve := false, feed := false, tension := true, phase := .tension
                              timer := some 3000 }
          coord := s.coord.released
          filters := { s.filters with contact := Filter.steady .asserted .asserted
                                      tensionOk := { s.filters.tensionOk with expected := .clear } } } t) ∧
 (∀ (s : State) (p : PartNo), s.seq.station = .run → s.raised = [] →
    s.seq.skipOwed = false → s.thr.phase = .tension → s.thr.wire = .unthreaded →
    s.filters.tensionOk.idleClear → s.seq.current = some p →
    let starts := fun (seq : Sequencer) (pass : Pass) (i : PathIndex) (start : Point) (c : CondNo)
        (target seek : Option PathPoint) (reports : ReportQueue) (r : PartRecord) =>
      ∃ t, exec (.tensionOkChange .asserted .asserted) s = .next t ∧
        State.settles s
          { s with
            nest := t.nest, reports := reports, queue := [], history := [], thr := s.thr.threaded, seq := seq
            filters := { s.filters with tensionOk := Filter.steady .asserted .asserted }
            fetch := ⟨.running, some p, some pass, some i, [], ⟨0, 0⟩, some start, some c, target, 0⟩
            exe := s.exe.atStart pass seek } t ∧
        (∀ q, q ≠ p → t.part q = s.part q) ∧ t.part p = r
    let w := s.part p
    (∀ (i : PathIndex) (c : CondNo), w.contour.first = some i.val → w.initial.first = some c.val →
      (s.seq.activity = some .threading → w.state = .uncut →
        starts { s.seq with activity := some .cutting, passStart := some w.startHole } .first i w.startHole c
          none none (queueReport .part (some p) none (1 + 256 * 1) s).reports
          { w with state := .active, pass := some .first, progress := some ⟨.first, 0, 0⟩ }) ∧
      (s.seq.activity = some .recovering → s.seq.route = .hole →
        starts { s.seq with step := some .replay, passStart := some w.startHole } .first i w.startHole c
          w.breakPoint none s.reports { w with pass := some .first })) ∧
    (∀ at_, w.tab = some at_ →
      (s.seq.activity = some .threading → w.state = .separating →
        starts { s.seq with activity := some .separating } .separation at_.record at_.at_ at_.cond none none
          s.reports { w with pass := some .separation, progress := some ⟨.separation, 0, 0⟩ }) ∧
      ∀ b, s.seq.activity = some .recovering → s.seq.route = .tab → w.breakPoint = some b → b.pass = .separation →
        starts { s.seq with step := some .replay } .separation at_.record at_.at_ at_.cond (some b) none
          s.reports { w with pass := some .separation }) ∧
    ∀ (pass : Pass) (start : Point) (back : Rethread) (b : PathPoint) (i : PathIndex) (c : CondNo),
      s.seq.activity = some .recovering → s.seq.route = .slot → pass ≠ .separation → w.pass = some pass →
      s.seq.passStart = some start → s.seq.rethread = some back → w.breakPoint = some b →
      pass.code ≤ b.pass.code → w.contour.get pass = some i.val → w.initial.get pass = some c.val →
      starts { s.seq with step := some .seek } pass i start c (some b) (some back.point) s.reports w)

/-- A fall of TENSION_OK on a THREADED wire is a wire break: outside RUN and HELD the wire is UNTHREADED and
the tension released with nothing begun. In RUN, while CUTTING an ACTIVE part or SEPARATING one in stage CUT, below
its break limit, it is reported, the break count rises by 1, the break point is the front, and a route begins: SLOT
at its THREAD step, with the rethread point, for an ACTIVE part that allows it, HOLE at its CUT step for any other
ACTIVE part, TAB at its CUT step for a SEPARATING one. In HELD the recovery is owed. Past the break limit the part is
SKIPPED with BREAK_LIMIT and the wire cut begins. A retreat demand that is wholly clamped for the 200th time is
STUCK_SHORT, and its SLOT route begins with CUT (R38, R47, R53, R55, R111, R114, R133, R138, R139, R140, R142,
R145). It rests on the model's choices of log 5, 8, 11, 12. -/
def Obligations.WireBreakBeginsRecovery : Prop :=
 (∀ s : State, s.calm → s.thr.wire = .threaded → s.filters.tensionOk = Filter.steady .asserted .asserted →
    (s.seq.station = .listen ∨ s.seq.station = .idle ∨ s.seq.station = .halted →
      ∃ t, exec (.tensionOkChange .clear .clear) s = .next t ∧
        State.settles s
          { s with
            thr := s.thr.broken
            filters := { s.filters with tensionOk := Filter.steady .clear .clear } } t ∧ t.gen.on = false) ∧
    ∀ (p : PartNo) (f : PathPoint), s.seq.current = some p → s.seq.skipOwed = false → s.exe.front = some f →
      (∀ e, s.queue.head? = some e → e.isPath = true → e.ordinal = f.ordinal → f.progress < e.length) →
      (s.seq.activity = some .cutting ∧ (s.part p).state = .active) ∨
        (s.seq.activity = some .separating ∧ (s.part p).state = .separating ∧ (s.part p).stage = .cut) →
      let clear := ({ s.filters with tensionOk := Filter.steady .clear .clear } : Filters)
      let broken := (queueReport .break_ (some p) (some .wireBreak) ((s.part p).breakCount + 1) s)
      let taken := fun (u : State) (r : PartRecord) =>
        ∃ t, exec (.tensionOkChange .clear .clear) s = .next t ∧
          State.settles s { u with nest := t.nest } t ∧ (∀ q, q ≠ p → t.part q = s.part q) ∧ t.part p = r
      let counted := { s.part p with breakCount := (s.part p).breakCount + 1
                                     breakPoint := some ((s.part p).breakPoint.getD f) }
      let flushed := { s with queue := [], history := [], fetch := Fetcher.flushed, exe := s.exe.cleared
                              reports := broken.reports }
      ((s.part p).breakCount + 1 ≤ (s.part p).breakLimit →
        (∀ e, s.seq.station = .run → s.thr.request = .off → s.filters.cutterDone.level = .clear →
          (s.seq.activity = some .cutting → (s.part p).slotAllowed = false →
            taken { flushed with
                    seq := { s.seq with activity := some .recovering, route := .hole, step := some .cut }
                    thr := s.thr.severing, filters := clear.cutTip } counted) ∧
          (s.seq.activity = some .separating →
            taken { flushed with
                    seq := { s.seq with activity := some .recovering, route := .tab, step := some .cut }
                    thr := s.thr.severing, filters := clear.cutTip } counted) ∧
          (s.seq.activity = some .cutting → (s.part p).slotAllowed = true → s.workingSegment = some e →
            s.exe.progress < e.length →
            taken { flushed with
                    seq := { s.seq with
                             activity := some .recovering, route := .slot, step := some .thread
                             rethread := some ⟨⟨e.pass, e.ordinal, s.exe.progress⟩, s.exe.position⟩ }
                    thr := s.thr.threading .slot (s.part p).threadLimit, filters := clear.cutTip } counted)) ∧
        (s.seq.station = .held → s.seq.activity = some .separating ∨ (s.part p).slotAllowed = false →
          taken { s with seq := { s.seq with owed := some .recovery }, thr := s.thr.broken, filters := clear
                         reports := broken.reports, exe := { s.exe with task := .off, seek := none } } counted)) ∧
      ((s.part p).breakLimit < (s.part p).breakCount + 1 → s.seq.station = .run → s.thr.request = .off →
        s.filters.cutterDone.level = .clear →
        taken { flushed with
                seq := { s.seq.ended .run with activity := some .wireCutting, owed := s.seq.owed
                                               window := s.seq.window }
                thr := s.thr.severing, filters := clear.cutTip
                reports := (queueReport .part (some p) (some .breakLimit)
                  (7 + 256 * passCode (s.part p).pass) broken).reports }
          { s.part p with state := .skipped, cause := some .breakLimit, stage := .off, breakPoint := none })) ∧
  ∀ (s : State) (p : PartNo) (e : Entry) (rest : List Entry) (f : PathPoint), s.seq.station = .run → s.calm →
    s.seq.activity = some .cutting → s.seq.current = some p → s.seq.skipOwed = false →
    (s.part p).state = .active → (s.part p).slotAllowed = true →
    (s.part p).breakCount + 1 ≤ (s.part p).breakLimit → s.exe.task = .path → s.exe.seek = none →
    s.exe.cursor = 0 → s.queue = e :: rest → e.isPath = true → e.dry ≤ s.exe.progress →
    s.exe.progress < e.length → s.exe.front = some f → (e.ordinal = f.ordinal → f.progress < e.length) →
    formStep s.gap.capture (s.condition e.cond) s.gen.level = .retreat → 0 < (s.condition e.cond).rstep →
    s.exe.rd = 1000 * (s.condition e.cond).lr → s.exe.stuck = 199 → s.thr.request = .off →
    s.filters.cutterDone.level = .clear →
    ∃ t, exec .servoPeriodExpiry s = .next t ∧
      t = { s with
            seq := { s.seq.aged with activity := some .recovering, route := .slot, step := some .cut
                                     rethread := some ⟨⟨e.pass, e.ordinal, s.exe.progress⟩, s.exe.position⟩ }
            thr := s.thr.severing, filters := s.filters.cutTip, queue := [], history := []
            fetch := Fetcher.flushed, exe := s.exe.cleared, gap := t.gap, gen := t.gen, coord := t.coord
            port := t.port, now := s.now + 1, nest := t.nest
            reports := (queueReport .break_ (some p) (some .stuckShort) ((s.part p).breakCount + 1)
              { s with now := s.now + 1 }).reports } ∧
      (∀ q, q ≠ p → t.part q = s.part q) ∧
      t.part p = { s.credited (some f) p with breakCount := (s.part p).breakCount + 1
                                              breakPoint := some ((s.part p).breakPoint.getD f) }

/-! ### The cell -/

/-- TRANSMIT_START with the spacing timer stopped and the idle time met in READY (100 us) or BACKOFF (the
station's own) builds the notice of R155 from the state of that moment, clears the due mark and enters
SENDING, where the line is not idle; short of it nothing changes (R152, R155, R178, R182; log 7).
TRANSMISSION_COMPLETE: D becomes the draw of the frame, the frame is absent, the spacing and refresh timers start,
the collision count is 0, and READY or QUIET follows by the due mark and by the draw target against D; the first
completion of a new claim updates C_max and starts the settle timer, and the completion of a HOLD updates C_max
alone. In degraded line mode the completion returns to normal line mode with LINE_RESTORED and the collision count
(R89, R153, R154, R156, R162, R164). It rests on the model's choices of log 7, 27. -/
def Obligations.TransmissionsStartAndComplete : Prop :=
 (∀ (s : State) (idle : Nat), s.calm → s.port.spacing = none →
    ((s.port.tx = .ready ∧ 100 ≤ idle) ∨
        (s.port.tx = .backoff ∧ (s.straps.station.val + 1) * 150 ≤ idle) →
      s.seq.station ≠ .powerDown →
      ∃ t, exec (.transmitStart idle) s = .next t ∧
        State.settles s
          { s with port := { s.port with
              tx := .sending, due := false, idle := 0
              frame := some
                { station := s.straps.station.val, phase := phaseOf s.seq.station s.seq.activity
                  draw := s.gen.draw, flush := s.gen.flush
                  heavy := s.thr.phase == .annealWait || s.thr.phase == .anneal
                  jet := match s.coord.jet with
                         | .off => .off
                         | .pending | .waiting => .claim
                         | .holding => .hold
                  stamp := if s.coord.jet = .off then 0 else s.coord.stamp } } } t) ∧
    ((s.port.tx = .ready ∧ idle < 100) ∨
        (s.port.tx = .backoff ∧ idle < (s.straps.station.val + 1) * 150) →
      exec (.transmitStart idle) s = .next s)) ∧
 (∀ (s : State) (n : Notice), s.calm → s.seq.station ≠ .powerDown → s.port.tx = .sending →
    s.port.frame = some n →
    let port := fun (draw : Nat) =>
      let due := s.port.due || draw != n.draw
      ({ s.port with frame := none, spacing := some 2, idle := 0, collisions := 0, due := due
                     tx := if due then .ready else .quiet, line := if due then some 20 else none } : CellPort)
    let seen := s.coord.cmaxSeen = false ∨ stampPrecedes s.coord.cmax n.stamp = true
    (s.coord.mode = .normal →
      (n.jet = .off →
        ∃ t, exec .transmissionComplete s = .next t ∧
          State.settles s
            { s with port := port s.gen.draw
                     coord := { s.coord with drawn := n.draw, refresh := some 50 } } t) ∧
      (n.jet = .claim → s.coord.jet = .pending → s.coord.completed = false → n.stamp = s.coord.stamp → seen →
        ∃ t, exec .transmissionComplete s = .next t ∧
          State.settles s
            { s with port := port s.gen.draw
                     coord := { s.coord with drawn := n.draw, refresh := some 50, cmax := n.stamp, cmaxSeen := true
                                             completed := true, settle := some 60 } } t) ∧
      (n.jet = .hold → s.coord.jet ≠ .pending → seen →
        ∃ t, exec .transmissionComplete s = .next t ∧
          State.settles s
            { s with port := port s.gen.draw
                     coord := { s.coord with drawn := n.draw, refresh := some 50, cmax := n.stamp
                                             cmaxSeen := true } } t)) ∧
    (s.coord.mode = .degraded → n.jet = .off → s.coord.jet = .off →
      ∃ t, exec .transmissionComplete s = .next t ∧
        State.settles s
          { s with port := port t.gen.draw
                   coord := { s.coord with drawn := n.draw, refresh := some 50, mode := .normal }
                   reports := (queueReport .lineRestored none none s.port.collisions s).reports } t))

/-- A COLLISION abandons the frame, counts to at most 65,535, sets the due mark and enters BACKOFF (R153);
LINE_TIMER_EXPIRY enters degraded line mode with its report (R154); REFRESH_TIMER_EXPIRY makes a notice due
(R156). -/
def Obligations.CollisionAndLineTimersKeepTheNoticeDue : Prop :=
  ∀ s : State, s.calm →
    (s.port.tx = .sending → s.seq.station ≠ .powerDown →
      ∃ t, exec .collision s = .next t ∧
        State.settles s
          { s with port := { s.port with
              tx := .backoff, due := true, frame := none, idle := 0
              collisions := min (s.port.collisions + 1) 65535 } } t) ∧
    (s.port.line.isSome → s.coord.mode = .normal →
      ∃ t, exec .lineTimerExpiry s = .next t ∧
        State.settles s
          { s with port := { s.port with line := none }, coord := { s.coord with mode := .degraded }
                   reports := (queueReport .lineFault none none s.port.collisions s).reports } t ∧
        t.coord.ap = min 15 (budget s.straps.power / 8) ∧ t.coord.af = min 15 (budget s.straps.flush / 8)) ∧
    (s.coord.refresh.isSome →
      (s.port.tx = .quiet → exec .refreshTimerExpiry s = .next
        { s with coord := { s.coord with refresh := none }
                 port := { s.port with tx := .ready, due := true, line := some 20 } }) ∧
      (s.port.tx = .ready ∨ s.port.tx = .sending ∨ s.port.tx = .backoff →
        exec .refreshTimerExpiry s = .next
          { s with coord := { s.coord with refresh := none }, port := { s.port with due := true } }))

/-- A peer's notice, while this station has no claim: its entry takes every field with age 0, PEER_FOUND is
queued if it was absent, C_max follows its stamp, and the allowances are recomputed; PEER_EXPIRY makes the
entry absent and queues PEER_LOST (R158, R159, R161, R162). -/
def Obligations.PeerTableFollowsTheNotices : Prop :=
  ∀ (s : State) (m : StationNo), s.calm → s.seq.station ≠ .powerDown → s.coord.jet = .off →
    m ≠ s.straps.station →
    (∀ (frame : List Byte) (n : Notice), noticeOf frame = some n → n.station = m.val → s.port.tx ≠ .sending →
      ∃ t, exec (.noticeArrival frame) s = .next t ∧
        State.settles s
          { s with
            port := { s.port with idle := 0 }
            reports := if (s.peer m).isNone then (queueReport .peerFound none none m.val s).reports else s.reports
            coord := { s.coord with
              peers := s.coord.peers.set m (some ⟨0, n.phase, n.draw, n.flush, n.heavy, n.jet, n.stamp⟩)
              cmax := if n.jet ≠ .off ∧ (s.coord.cmaxSeen = false ∨ stampPrecedes s.coord.cmax n.stamp = true)
                      then n.stamp else s.coord.cmax
              cmaxSeen := s.coord.cmaxSeen || n.jet != .off } } t) ∧
    ((s.peer m).isSome →
      ∃ t, exec (.peerExpiry m) s = .next t ∧
        State.settles s
          { s with
            reports := (queueReport .peerLost none none m.val s).reports
            coord := { s.coord with peers := s.coord.peers.set m none } } t)

/-- A notice with the own station number halts the station in LISTEN, IDLE, RUN and HELD with
DUPLICATE_STATION and silences the Cell Line Port; it is not entered in the peer table, and in HALTED the
condition is not taken (R53, R58, R157, R160). -/
def Obligations.OwnNumberHaltsAndSilences : Prop :=
  ∀ (s : State) (frame : List Byte) (n : Notice), s.raised = [] → noticeOf frame = some n →
    n.station = s.straps.station.val → n.jet = .off → s.walking = false → s.port.tx ≠ .sending →
    (s.seq.station = .listen ∨ s.seq.station = .idle ∨ s.seq.station = .run ∨ s.seq.station = .held →
      ∃ t, exec (.noticeArrival frame) s = .next t ∧
        State.settles s
          { s.afterHalt .duplicateStation with
            port := { s.port with idle := 0, tx := .silent, due := false, line := none, frame := none }
            coord := { s.coord.released with refresh := none } } t ∧ t.port.tx = .silent ∧
        t.port.due = false) ∧
    (s.seq.station = .halted → s.thr.phase ≠ .annealWait →
      ∃ t, exec (.noticeArrival frame) s = .next t ∧
        State.settles s { s with port := { s.port with idle := 0 } } t)

/-- SETTLE_TIMER_EXPIRY takes a PENDING claim to WAITING and runs the grant test: passed, in JET_CLAIM with
no skip owed, the jet is HOLDING, the valve and the feed open and FEED's time is 15 s in HOLE mode and 25 s
in SLOT mode; failed, it stays WAITING (R126, R164, R165). A peer's HOLD whose claim precedes the own claim
takes the jet back: the valve and feed off, the claim WAITING with its stamp, JET_CLAIM with a new wait
limit, the attempt uncounted and JET_CONFLICT queued (R126, R167). -/
def Obligations.JetIsGrantedAndYielded : Prop :=
 (∀ s : State, s.calm → s.coord.jet = .pending → s.coord.settle.isSome →
    (s.grantPasses = true → s.seq.skipOwed = false → s.filters.contact.level = .clear →
      ∃ t, exec .settleTimerExpiry s = .next t ∧
        State.settles s
          { s with
            coord := { s.coord with jet := .holding, settle := none }
            thr := { s.thr with valve := true, feed := true, phase := .feed
                                timer := some (if s.thr.mode = some .slot then 25000 else 15000) }
            filters := { s.filters with contact := { s.filters.contact with expected := .clear } } } t) ∧
    (s.grantPasses = false →
      ∃ t, exec .settleTimerExpiry s = .next t ∧
        State.settles s { s with coord := { s.coord with jet := .waiting, settle := none } } t)) ∧
 (∀ (s : State) (m : StationNo) (frame : List Byte) (n : Notice), s.raised = [] →
    s.seq.station ≠ .powerDown → s.thr.phase = .feed → s.coord.jet = .holding → s.coord.mode = .normal →
    noticeOf frame = some n → n.station = m.val → m ≠ s.straps.station → s.port.tx ≠ .sending →
    n.jet = .hold → n.phase ≠ .halted → (s.peer m).isSome →
    s.coord.cmaxSeen = true → stampPrecedes s.coord.cmax n.stamp = false →
    claimPrecedes n.stamp m.val s.coord.stamp s.straps.station.val = true →
    ∃ t, exec (.noticeArrival frame) s = .next t ∧
      State.settles s
        { s with
          port := { s.port with idle := 0 }
          reports := (queueReport .jetConflict s.seq.current none (m.val + 65536 * s.coord.stamp) s).reports
          coord := { s.coord with
            jet := .waiting
            peers := s.coord.peers.set m (some ⟨0, n.phase, n.draw, n.flush, n.heavy, n.jet, n.stamp⟩) }
          thr := { s.thr with valve := false, feed := false, phase := .jetClaim, timer := some 120000
                              sagBlank := none }
          filters := { s.filters with contact := s.filters.contact.followed } } t ∧
      t.thr.attempts = s.thr.attempts)

/-- Of two claims of different stations exactly one precedes the other (R162), so two stations that each
hold the other's current claim in their peer tables do not both pass the grant test (R165, R168). -/
def Obligations.GrantsExcludeEachOther : Prop :=
  (∀ a b m n : Nat, a < 65536 → b < 65536 → m ≠ n →
    (claimPrecedes a m b n = true ↔ claimPrecedes b n a m = false)) ∧
  ∀ (s t : State) (p q : Peer), s.straps.station ≠ t.straps.station →
    s.coord.stamp < 65536 → t.coord.stamp < 65536 →
    s.peer t.straps.station = some p → p.phase ≠ .halted → p.jet = .claim → p.stamp = t.coord.stamp →
    t.peer s.straps.station = some q → q.phase ≠ .halted → q.jet = .claim → q.stamp = s.coord.stamp →
    ¬(s.grantPasses = true ∧ t.grantPasses = true)

/-- The allowances of R161: the larger of the share and the headroom, at most 15, from the fresh peers alone
in normal line mode and the eighth of the budget in degraded line mode; and with the own entry absent they
are never below the eighth of the budget, nor 0. The own entry stays absent in every step (R158). L_target,
the draw target and the flush setpoint (R87, R90, R91): in a settled state of RUN, CUTTING or SEPARATING with a
condition in use they are the formulas of those rules; with none in use all three are 0; and otherwise L_target
and flush are 0 and the draw target is 6 in ANNEAL_WAIT and ANNEAL and 0 elsewhere. Every command that changes what
a notice would say leaves a notice due, unless the Port is SILENT (R156). It rests on the model's choice of log 36:
the stamp compared is the stamp a notice would carry. -/
def Obligations.AllowancesAndTargetsFollowTheirFormulas : Prop :=
 ((∀ s : State,
    let fresh := (List.finRange 8).filterMap fun n => (s.peer n).filter fun p => p.phase != .halted
    let n := 1 + (fresh.filter fun p => p.phase == .moving || p.phase == .threading || p.phase == .cutting ||
      p.phase == .separating || p.phase == .recovering).length
    let bp := if s.straps.power = 0 then 128 else 8 * s.straps.power.val
    let bf := if s.straps.flush = 0 then 128 else 8 * s.straps.flush.val
    (s.coord.mode = .normal →
      s.powerAllowance = min 15 (max (bp / n) (bp - (fresh.map Peer.draw).sum)) ∧
      s.flushAllowance = min 15 (max (bf / n) (bf - (fresh.map Peer.flush).sum))) ∧
    (s.coord.mode = .degraded →
      s.powerAllowance = min 15 (bp / 8) ∧ s.flushAllowance = min 15 (bf / 8)) ∧
    (s.peer s.straps.station = none →
      1 ≤ min 15 (bp / 8) ∧ min 15 (bp / 8) ≤ s.powerAllowance ∧ s.powerAllowance ≤ 15 ∧
      1 ≤ min 15 (bf / 8) ∧ min 15 (bf / 8) ≤ s.flushAllowance ∧ s.flushAllowance ≤ 15)) ∧
  ∀ s t : State, s.peer s.straps.station = none → step s = .next t → t.peer t.straps.station = none) ∧
 (∀ s : State, s.settled →
    (s.seq.station = .run → s.seq.activity = some .cutting ∨ s.seq.activity = some .separating →
      (∀ c, s.gen.cond = some c →
        let k := s.condition c
        s.gen.target = min k.lreq (min s.coord.ap (max 1 (k.lreq * min s.coord.af k.freq / k.freq))) ∧
        s.gen.draw = s.gen.target ∧ s.gen.flush = min k.freq s.coord.af ∧
        s.gen.offTime = k.offBase * 2 ^ s.gen.stretch) ∧
      (s.gen.cond = none →
        s.gen.target = 0 ∧ s.gen.level = 0 ∧ s.gen.on = false ∧ s.gen.flush = 0 ∧ s.gen.draw = 0)) ∧
    (s.seq.station ≠ .run ∨ (s.seq.activity ≠ some .cutting ∧ s.seq.activity ≠ some .separating) →
      s.gen.target = 0 ∧ s.gen.level = 0 ∧ s.gen.on = false ∧ s.gen.flush = 0 ∧
      s.gen.draw = if s.thr.phase = .annealWait ∨ s.thr.phase = .anneal then 6 else 0)) ∧
  ∀ (c : Instr) (s t : State), exec c s = .next t →
    s.phase ≠ t.phase ∨ s.gen.draw ≠ t.gen.draw ∨ s.gen.flush ≠ t.gen.flush ∨ s.heavy ≠ t.heavy ∨
      s.coord.jet.announced ≠ t.coord.jet.announced ∨ s.announcedStamp ≠ t.announcedStamp →
    t.port.due = true ∨ t.port.tx = .silent
end

