-- ==== Sys2Proof/Laws/State.lean ====
section
/-! SUPPORT. One lemma per field per update of `State`, each true by `rfl`. -/

namespace Sys2Proof.Machine

variable (s : State)

/-! ### modNest -/

@[simp] theorem State.modNest_straps (f : Vector PartRecord 32 → Vector PartRecord 32) : (s.modNest f).straps = s.straps := rfl
@[simp] theorem State.modNest_store (f : Vector PartRecord 32 → Vector PartRecord 32) : (s.modNest f).store = s.store := rfl
@[simp] theorem State.modNest_conds (f : Vector PartRecord 32 → Vector PartRecord 32) : (s.modNest f).conds = s.conds := rfl
@[simp] theorem State.modNest_nest (f : Vector PartRecord 32 → Vector PartRecord 32) : (s.modNest f).nest = f s.nest := rfl
@[simp] theorem State.modNest_setup (f : Vector PartRecord 32 → Vector PartRecord 32) : (s.modNest f).setup = s.setup := rfl
@[simp] theorem State.modNest_locks (f : Vector PartRecord 32 → Vector PartRecord 32) : (s.modNest f).locks = s.locks := rfl
@[simp] theorem State.modNest_walking (f : Vector PartRecord 32 → Vector PartRecord 32) : (s.modNest f).walking = s.walking := rfl
@[simp] theorem State.modNest_seq (f : Vector PartRecord 32 → Vector PartRecord 32) : (s.modNest f).seq = s.seq := rfl
@[simp] theorem State.modNest_fetch (f : Vector PartRecord 32 → Vector PartRecord 32) : (s.modNest f).fetch = s.fetch := rfl
@[simp] theorem State.modNest_queue (f : Vector PartRecord 32 → Vector PartRecord 32) : (s.modNest f).queue = s.queue := rfl
@[simp] theorem State.modNest_history (f : Vector PartRecord 32 → Vector PartRecord 32) : (s.modNest f).history = s.history := rfl
@[simp] theorem State.modNest_gap (f : Vector PartRecord 32 → Vector PartRecord 32) : (s.modNest f).gap = s.gap := rfl
@[simp] theorem State.modNest_gen (f : Vector PartRecord 32 → Vector PartRecord 32) : (s.modNest f).gen = s.gen := rfl
@[simp] theorem State.modNest_exe (f : Vector PartRecord 32 → Vector PartRecord 32) : (s.modNest f).exe = s.exe := rfl
@[simp] theorem State.modNest_thr (f : Vector PartRecord 32 → Vector PartRecord 32) : (s.modNest f).thr = s.thr := rfl
@[simp] theorem State.modNest_filters (f : Vector PartRecord 32 → Vector PartRecord 32) : (s.modNest f).filters = s.filters := rfl
@[simp] theorem State.modNest_coord (f : Vector PartRecord 32 → Vector PartRecord 32) : (s.modNest f).coord = s.coord := rfl
@[simp] theorem State.modNest_port (f : Vector PartRecord 32 → Vector PartRecord 32) : (s.modNest f).port = s.port := rfl
@[simp] theorem State.modNest_link (f : Vector PartRecord 32 → Vector PartRecord 32) : (s.modNest f).link = s.link := rfl
@[simp] theorem State.modNest_reports (f : Vector PartRecord 32 → Vector PartRecord 32) : (s.modNest f).reports = s.reports := rfl
@[simp] theorem State.modNest_now (f : Vector PartRecord 32 → Vector PartRecord 32) : (s.modNest f).now = s.now := rfl
@[simp] theorem State.modNest_raised (f : Vector PartRecord 32 → Vector PartRecord 32) : (s.modNest f).raised = s.raised := rfl
@[simp] theorem State.modNest_pending (f : Vector PartRecord 32 → Vector PartRecord 32) : (s.modNest f).pending = s.pending := rfl

/-! ### modSeq -/

@[simp] theorem State.modSeq_straps (f : Sequencer → Sequencer) : (s.modSeq f).straps = s.straps := rfl
@[simp] theorem State.modSeq_store (f : Sequencer → Sequencer) : (s.modSeq f).store = s.store := rfl
@[simp] theorem State.modSeq_conds (f : Sequencer → Sequencer) : (s.modSeq f).conds = s.conds := rfl
@[simp] theorem State.modSeq_nest (f : Sequencer → Sequencer) : (s.modSeq f).nest = s.nest := rfl
@[simp] theorem State.modSeq_setup (f : Sequencer → Sequencer) : (s.modSeq f).setup = s.setup := rfl
@[simp] theorem State.modSeq_locks (f : Sequencer → Sequencer) : (s.modSeq f).locks = s.locks := rfl
@[simp] theorem State.modSeq_walking (f : Sequencer → Sequencer) : (s.modSeq f).walking = s.walking := rfl
@[simp] theorem State.modSeq_seq (f : Sequencer → Sequencer) : (s.modSeq f).seq = f s.seq := rfl
@[simp] theorem State.modSeq_fetch (f : Sequencer → Sequencer) : (s.modSeq f).fetch = s.fetch := rfl
@[simp] theorem State.modSeq_queue (f : Sequencer → Sequencer) : (s.modSeq f).queue = s.queue := rfl
@[simp] theorem State.modSeq_history (f : Sequencer → Sequencer) : (s.modSeq f).history = s.history := rfl
@[simp] theorem State.modSeq_gap (f : Sequencer → Sequencer) : (s.modSeq f).gap = s.gap := rfl
@[simp] theorem State.modSeq_gen (f : Sequencer → Sequencer) : (s.modSeq f).gen = s.gen := rfl
@[simp] theorem State.modSeq_exe (f : Sequencer → Sequencer) : (s.modSeq f).exe = s.exe := rfl
@[simp] theorem State.modSeq_thr (f : Sequencer → Sequencer) : (s.modSeq f).thr = s.thr := rfl
@[simp] theorem State.modSeq_filters (f : Sequencer → Sequencer) : (s.modSeq f).filters = s.filters := rfl
@[simp] theorem State.modSeq_coord (f : Sequencer → Sequencer) : (s.modSeq f).coord = s.coord := rfl
@[simp] theorem State.modSeq_port (f : Sequencer → Sequencer) : (s.modSeq f).port = s.port := rfl
@[simp] theorem State.modSeq_link (f : Sequencer → Sequencer) : (s.modSeq f).link = s.link := rfl
@[simp] theorem State.modSeq_reports (f : Sequencer → Sequencer) : (s.modSeq f).reports = s.reports := rfl
@[simp] theorem State.modSeq_now (f : Sequencer → Sequencer) : (s.modSeq f).now = s.now := rfl
@[simp] theorem State.modSeq_raised (f : Sequencer → Sequencer) : (s.modSeq f).raised = s.raised := rfl
@[simp] theorem State.modSeq_pending (f : Sequencer → Sequencer) : (s.modSeq f).pending = s.pending := rfl

/-! ### modFetch -/

@[simp] theorem State.modFetch_straps (f : Fetcher → Fetcher) : (s.modFetch f).straps = s.straps := rfl
@[simp] theorem State.modFetch_store (f : Fetcher → Fetcher) : (s.modFetch f).store = s.store := rfl
@[simp] theorem State.modFetch_conds (f : Fetcher → Fetcher) : (s.modFetch f).conds = s.conds := rfl
@[simp] theorem State.modFetch_nest (f : Fetcher → Fetcher) : (s.modFetch f).nest = s.nest := rfl
@[simp] theorem State.modFetch_setup (f : Fetcher → Fetcher) : (s.modFetch f).setup = s.setup := rfl
@[simp] theorem State.modFetch_locks (f : Fetcher → Fetcher) : (s.modFetch f).locks = s.locks := rfl
@[simp] theorem State.modFetch_walking (f : Fetcher → Fetcher) : (s.modFetch f).walking = s.walking := rfl
@[simp] theorem State.modFetch_seq (f : Fetcher → Fetcher) : (s.modFetch f).seq = s.seq := rfl
@[simp] theorem State.modFetch_fetch (f : Fetcher → Fetcher) : (s.modFetch f).fetch = f s.fetch := rfl
@[simp] theorem State.modFetch_queue (f : Fetcher → Fetcher) : (s.modFetch f).queue = s.queue := rfl
@[simp] theorem State.modFetch_history (f : Fetcher → Fetcher) : (s.modFetch f).history = s.history := rfl
@[simp] theorem State.modFetch_gap (f : Fetcher → Fetcher) : (s.modFetch f).gap = s.gap := rfl
@[simp] theorem State.modFetch_gen (f : Fetcher → Fetcher) : (s.modFetch f).gen = s.gen := rfl
@[simp] theorem State.modFetch_exe (f : Fetcher → Fetcher) : (s.modFetch f).exe = s.exe := rfl
@[simp] theorem State.modFetch_thr (f : Fetcher → Fetcher) : (s.modFetch f).thr = s.thr := rfl
@[simp] theorem State.modFetch_filters (f : Fetcher → Fetcher) : (s.modFetch f).filters = s.filters := rfl
@[simp] theorem State.modFetch_coord (f : Fetcher → Fetcher) : (s.modFetch f).coord = s.coord := rfl
@[simp] theorem State.modFetch_port (f : Fetcher → Fetcher) : (s.modFetch f).port = s.port := rfl
@[simp] theorem State.modFetch_link (f : Fetcher → Fetcher) : (s.modFetch f).link = s.link := rfl
@[simp] theorem State.modFetch_reports (f : Fetcher → Fetcher) : (s.modFetch f).reports = s.reports := rfl
@[simp] theorem State.modFetch_now (f : Fetcher → Fetcher) : (s.modFetch f).now = s.now := rfl
@[simp] theorem State.modFetch_raised (f : Fetcher → Fetcher) : (s.modFetch f).raised = s.raised := rfl
@[simp] theorem State.modFetch_pending (f : Fetcher → Fetcher) : (s.modFetch f).pending = s.pending := rfl

/-! ### modGap -/

@[simp] theorem State.modGap_straps (f : GapMonitor → GapMonitor) : (s.modGap f).straps = s.straps := rfl
@[simp] theorem State.modGap_store (f : GapMonitor → GapMonitor) : (s.modGap f).store = s.store := rfl
@[simp] theorem State.modGap_conds (f : GapMonitor → GapMonitor) : (s.modGap f).conds = s.conds := rfl
@[simp] theorem State.modGap_nest (f : GapMonitor → GapMonitor) : (s.modGap f).nest = s.nest := rfl
@[simp] theorem State.modGap_setup (f : GapMonitor → GapMonitor) : (s.modGap f).setup = s.setup := rfl
@[simp] theorem State.modGap_locks (f : GapMonitor → GapMonitor) : (s.modGap f).locks = s.locks := rfl
@[simp] theorem State.modGap_walking (f : GapMonitor → GapMonitor) : (s.modGap f).walking = s.walking := rfl
@[simp] theorem State.modGap_seq (f : GapMonitor → GapMonitor) : (s.modGap f).seq = s.seq := rfl
@[simp] theorem State.modGap_fetch (f : GapMonitor → GapMonitor) : (s.modGap f).fetch = s.fetch := rfl
@[simp] theorem State.modGap_queue (f : GapMonitor → GapMonitor) : (s.modGap f).queue = s.queue := rfl
@[simp] theorem State.modGap_history (f : GapMonitor → GapMonitor) : (s.modGap f).history = s.history := rfl
@[simp] theorem State.modGap_gap (f : GapMonitor → GapMonitor) : (s.modGap f).gap = f s.gap := rfl
@[simp] theorem State.modGap_gen (f : GapMonitor → GapMonitor) : (s.modGap f).gen = s.gen := rfl
@[simp] theorem State.modGap_exe (f : GapMonitor → GapMonitor) : (s.modGap f).exe = s.exe := rfl
@[simp] theorem State.modGap_thr (f : GapMonitor → GapMonitor) : (s.modGap f).thr = s.thr := rfl
@[simp] theorem State.modGap_filters (f : GapMonitor → GapMonitor) : (s.modGap f).filters = s.filters := rfl
@[simp] theorem State.modGap_coord (f : GapMonitor → GapMonitor) : (s.modGap f).coord = s.coord := rfl
@[simp] theorem State.modGap_port (f : GapMonitor → GapMonitor) : (s.modGap f).port = s.port := rfl
@[simp] theorem State.modGap_link (f : GapMonitor → GapMonitor) : (s.modGap f).link = s.link := rfl
@[simp] theorem State.modGap_reports (f : GapMonitor → GapMonitor) : (s.modGap f).reports = s.reports := rfl
@[simp] theorem State.modGap_now (f : GapMonitor → GapMonitor) : (s.modGap f).now = s.now := rfl
@[simp] theorem State.modGap_raised (f : GapMonitor → GapMonitor) : (s.modGap f).raised = s.raised := rfl
@[simp] theorem State.modGap_pending (f : GapMonitor → GapMonitor) : (s.modGap f).pending = s.pending := rfl

/-! ### modGen -/

@[simp] theorem State.modGen_straps (f : Generator → Generator) : (s.modGen f).straps = s.straps := rfl
@[simp] theorem State.modGen_store (f : Generator → Generator) : (s.modGen f).store = s.store := rfl
@[simp] theorem State.modGen_conds (f : Generator → Generator) : (s.modGen f).conds = s.conds := rfl
@[simp] theorem State.modGen_nest (f : Generator → Generator) : (s.modGen f).nest = s.nest := rfl
@[simp] theorem State.modGen_setup (f : Generator → Generator) : (s.modGen f).setup = s.setup := rfl
@[simp] theorem State.modGen_locks (f : Generator → Generator) : (s.modGen f).locks = s.locks := rfl
@[simp] theorem State.modGen_walking (f : Generator → Generator) : (s.modGen f).walking = s.walking := rfl
@[simp] theorem State.modGen_seq (f : Generator → Generator) : (s.modGen f).seq = s.seq := rfl
@[simp] theorem State.modGen_fetch (f : Generator → Generator) : (s.modGen f).fetch = s.fetch := rfl
@[simp] theorem State.modGen_queue (f : Generator → Generator) : (s.modGen f).queue = s.queue := rfl
@[simp] theorem State.modGen_history (f : Generator → Generator) : (s.modGen f).history = s.history := rfl
@[simp] theorem State.modGen_gap (f : Generator → Generator) : (s.modGen f).gap = s.gap := rfl
@[simp] theorem State.modGen_gen (f : Generator → Generator) : (s.modGen f).gen = f s.gen := rfl
@[simp] theorem State.modGen_exe (f : Generator → Generator) : (s.modGen f).exe = s.exe := rfl
@[simp] theorem State.modGen_thr (f : Generator → Generator) : (s.modGen f).thr = s.thr := rfl
@[simp] theorem State.modGen_filters (f : Generator → Generator) : (s.modGen f).filters = s.filters := rfl
@[simp] theorem State.modGen_coord (f : Generator → Generator) : (s.modGen f).coord = s.coord := rfl
@[simp] theorem State.modGen_port (f : Generator → Generator) : (s.modGen f).port = s.port := rfl
@[simp] theorem State.modGen_link (f : Generator → Generator) : (s.modGen f).link = s.link := rfl
@[simp] theorem State.modGen_reports (f : Generator → Generator) : (s.modGen f).reports = s.reports := rfl
@[simp] theorem State.modGen_now (f : Generator → Generator) : (s.modGen f).now = s.now := rfl
@[simp] theorem State.modGen_raised (f : Generator → Generator) : (s.modGen f).raised = s.raised := rfl
@[simp] theorem State.modGen_pending (f : Generator → Generator) : (s.modGen f).pending = s.pending := rfl

/-! ### modExe -/

@[simp] theorem State.modExe_straps (f : Executor → Executor) : (s.modExe f).straps = s.straps := rfl
@[simp] theorem State.modExe_store (f : Executor → Executor) : (s.modExe f).store = s.store := rfl
@[simp] theorem State.modExe_conds (f : Executor → Executor) : (s.modExe f).conds = s.conds := rfl
@[simp] theorem State.modExe_nest (f : Executor → Executor) : (s.modExe f).nest = s.nest := rfl
@[simp] theorem State.modExe_setup (f : Executor → Executor) : (s.modExe f).setup = s.setup := rfl
@[simp] theorem State.modExe_locks (f : Executor → Executor) : (s.modExe f).locks = s.locks := rfl
@[simp] theorem State.modExe_walking (f : Executor → Executor) : (s.modExe f).walking = s.walking := rfl
@[simp] theorem State.modExe_seq (f : Executor → Executor) : (s.modExe f).seq = s.seq := rfl
@[simp] theorem State.modExe_fetch (f : Executor → Executor) : (s.modExe f).fetch = s.fetch := rfl
@[simp] theorem State.modExe_queue (f : Executor → Executor) : (s.modExe f).queue = s.queue := rfl
@[simp] theorem State.modExe_history (f : Executor → Executor) : (s.modExe f).history = s.history := rfl
@[simp] theorem State.modExe_gap (f : Executor → Executor) : (s.modExe f).gap = s.gap := rfl
@[simp] theorem State.modExe_gen (f : Executor → Executor) : (s.modExe f).gen = s.gen := rfl
@[simp] theorem State.modExe_exe (f : Executor → Executor) : (s.modExe f).exe = f s.exe := rfl
@[simp] theorem State.modExe_thr (f : Executor → Executor) : (s.modExe f).thr = s.thr := rfl
@[simp] theorem State.modExe_filters (f : Executor → Executor) : (s.modExe f).filters = s.filters := rfl
@[simp] theorem State.modExe_coord (f : Executor → Executor) : (s.modExe f).coord = s.coord := rfl
@[simp] theorem State.modExe_port (f : Executor → Executor) : (s.modExe f).port = s.port := rfl
@[simp] theorem State.modExe_link (f : Executor → Executor) : (s.modExe f).link = s.link := rfl
@[simp] theorem State.modExe_reports (f : Executor → Executor) : (s.modExe f).reports = s.reports := rfl
@[simp] theorem State.modExe_now (f : Executor → Executor) : (s.modExe f).now = s.now := rfl
@[simp] theorem State.modExe_raised (f : Executor → Executor) : (s.modExe f).raised = s.raised := rfl
@[simp] theorem State.modExe_pending (f : Executor → Executor) : (s.modExe f).pending = s.pending := rfl

/-! ### modThr -/

@[simp] theorem State.modThr_straps (f : Threader → Threader) : (s.modThr f).straps = s.straps := rfl
@[simp] theorem State.modThr_store (f : Threader → Threader) : (s.modThr f).store = s.store := rfl
@[simp] theorem State.modThr_conds (f : Threader → Threader) : (s.modThr f).conds = s.conds := rfl
@[simp] theorem State.modThr_nest (f : Threader → Threader) : (s.modThr f).nest = s.nest := rfl
@[simp] theorem State.modThr_setup (f : Threader → Threader) : (s.modThr f).setup = s.setup := rfl
@[simp] theorem State.modThr_locks (f : Threader → Threader) : (s.modThr f).locks = s.locks := rfl
@[simp] theorem State.modThr_walking (f : Threader → Threader) : (s.modThr f).walking = s.walking := rfl
@[simp] theorem State.modThr_seq (f : Threader → Threader) : (s.modThr f).seq = s.seq := rfl
@[simp] theorem State.modThr_fetch (f : Threader → Threader) : (s.modThr f).fetch = s.fetch := rfl
@[simp] theorem State.modThr_queue (f : Threader → Threader) : (s.modThr f).queue = s.queue := rfl
@[simp] theorem State.modThr_history (f : Threader → Threader) : (s.modThr f).history = s.history := rfl
@[simp] theorem State.modThr_gap (f : Threader → Threader) : (s.modThr f).gap = s.gap := rfl
@[simp] theorem State.modThr_gen (f : Threader → Threader) : (s.modThr f).gen = s.gen := rfl
@[simp] theorem State.modThr_exe (f : Threader → Threader) : (s.modThr f).exe = s.exe := rfl
@[simp] theorem State.modThr_thr (f : Threader → Threader) : (s.modThr f).thr = f s.thr := rfl
@[simp] theorem State.modThr_filters (f : Threader → Threader) : (s.modThr f).filters = s.filters := rfl
@[simp] theorem State.modThr_coord (f : Threader → Threader) : (s.modThr f).coord = s.coord := rfl
@[simp] theorem State.modThr_port (f : Threader → Threader) : (s.modThr f).port = s.port := rfl
@[simp] theorem State.modThr_link (f : Threader → Threader) : (s.modThr f).link = s.link := rfl
@[simp] theorem State.modThr_reports (f : Threader → Threader) : (s.modThr f).reports = s.reports := rfl
@[simp] theorem State.modThr_now (f : Threader → Threader) : (s.modThr f).now = s.now := rfl
@[simp] theorem State.modThr_raised (f : Threader → Threader) : (s.modThr f).raised = s.raised := rfl
@[simp] theorem State.modThr_pending (f : Threader → Threader) : (s.modThr f).pending = s.pending := rfl

/-! ### modFilters -/

@[simp] theorem State.modFilters_straps (f : Filters → Filters) : (s.modFilters f).straps = s.straps := rfl
@[simp] theorem State.modFilters_store (f : Filters → Filters) : (s.modFilters f).store = s.store := rfl
@[simp] theorem State.modFilters_conds (f : Filters → Filters) : (s.modFilters f).conds = s.conds := rfl
@[simp] theorem State.modFilters_nest (f : Filters → Filters) : (s.modFilters f).nest = s.nest := rfl
@[simp] theorem State.modFilters_setup (f : Filters → Filters) : (s.modFilters f).setup = s.setup := rfl
@[simp] theorem State.modFilters_locks (f : Filters → Filters) : (s.modFilters f).locks = s.locks := rfl
@[simp] theorem State.modFilters_walking (f : Filters → Filters) : (s.modFilters f).walking = s.walking := rfl
@[simp] theorem State.modFilters_seq (f : Filters → Filters) : (s.modFilters f).seq = s.seq := rfl
@[simp] theorem State.modFilters_fetch (f : Filters → Filters) : (s.modFilters f).fetch = s.fetch := rfl
@[simp] theorem State.modFilters_queue (f : Filters → Filters) : (s.modFilters f).queue = s.queue := rfl
@[simp] theorem State.modFilters_history (f : Filters → Filters) : (s.modFilters f).history = s.history := rfl
@[simp] theorem State.modFilters_gap (f : Filters → Filters) : (s.modFilters f).gap = s.gap := rfl
@[simp] theorem State.modFilters_gen (f : Filters → Filters) : (s.modFilters f).gen = s.gen := rfl
@[simp] theorem State.modFilters_exe (f : Filters → Filters) : (s.modFilters f).exe = s.exe := rfl
@[simp] theorem State.modFilters_thr (f : Filters → Filters) : (s.modFilters f).thr = s.thr := rfl
@[simp] theorem State.modFilters_filters (f : Filters → Filters) : (s.modFilters f).filters = f s.filters := rfl
@[simp] theorem State.modFilters_coord (f : Filters → Filters) : (s.modFilters f).coord = s.coord := rfl
@[simp] theorem State.modFilters_port (f : Filters → Filters) : (s.modFilters f).port = s.port := rfl
@[simp] theorem State.modFilters_link (f : Filters → Filters) : (s.modFilters f).link = s.link := rfl
@[simp] theorem State.modFilters_reports (f : Filters → Filters) : (s.modFilters f).reports = s.reports := rfl
@[simp] theorem State.modFilters_now (f : Filters → Filters) : (s.modFilters f).now = s.now := rfl
@[simp] theorem State.modFilters_raised (f : Filters → Filters) : (s.modFilters f).raised = s.raised := rfl
@[simp] theorem State.modFilters_pending (f : Filters → Filters) : (s.modFilters f).pending = s.pending := rfl

/-! ### modCoord -/

@[simp] theorem State.modCoord_straps (f : Coordination → Coordination) : (s.modCoord f).straps = s.straps := rfl
@[simp] theorem State.modCoord_store (f : Coordination → Coordination) : (s.modCoord f).store = s.store := rfl
@[simp] theorem State.modCoord_conds (f : Coordination → Coordination) : (s.modCoord f).conds = s.conds := rfl
@[simp] theorem State.modCoord_nest (f : Coordination → Coordination) : (s.modCoord f).nest = s.nest := rfl
@[simp] theorem State.modCoord_setup (f : Coordination → Coordination) : (s.modCoord f).setup = s.setup := rfl
@[simp] theorem State.modCoord_locks (f : Coordination → Coordination) : (s.modCoord f).locks = s.locks := rfl
@[simp] theorem State.modCoord_walking (f : Coordination → Coordination) : (s.modCoord f).walking = s.walking := rfl
@[simp] theorem State.modCoord_seq (f : Coordination → Coordination) : (s.modCoord f).seq = s.seq := rfl
@[simp] theorem State.modCoord_fetch (f : Coordination → Coordination) : (s.modCoord f).fetch = s.fetch := rfl
@[simp] theorem State.modCoord_queue (f : Coordination → Coordination) : (s.modCoord f).queue = s.queue := rfl
@[simp] theorem State.modCoord_history (f : Coordination → Coordination) : (s.modCoord f).history = s.history := rfl
@[simp] theorem State.modCoord_gap (f : Coordination → Coordination) : (s.modCoord f).gap = s.gap := rfl
@[simp] theorem State.modCoord_gen (f : Coordination → Coordination) : (s.modCoord f).gen = s.gen := rfl
@[simp] theorem State.modCoord_exe (f : Coordination → Coordination) : (s.modCoord f).exe = s.exe := rfl
@[simp] theorem State.modCoord_thr (f : Coordination → Coordination) : (s.modCoord f).thr = s.thr := rfl
@[simp] theorem State.modCoord_filters (f : Coordination → Coordination) : (s.modCoord f).filters = s.filters := rfl
@[simp] theorem State.modCoord_coord (f : Coordination → Coordination) : (s.modCoord f).coord = f s.coord := rfl
@[simp] theorem State.modCoord_port (f : Coordination → Coordination) : (s.modCoord f).port = s.port := rfl
@[simp] theorem State.modCoord_link (f : Coordination → Coordination) : (s.modCoord f).link = s.link := rfl
@[simp] theorem State.modCoord_reports (f : Coordination → Coordination) : (s.modCoord f).reports = s.reports := rfl
@[simp] theorem State.modCoord_now (f : Coordination → Coordination) : (s.modCoord f).now = s.now := rfl
@[simp] theorem State.modCoord_raised (f : Coordination → Coordination) : (s.modCoord f).raised = s.raised := rfl
@[simp] theorem State.modCoord_pending (f : Coordination → Coordination) : (s.modCoord f).pending = s.pending := rfl

/-! ### modPort -/

@[simp] theorem State.modPort_straps (f : CellPort → CellPort) : (s.modPort f).straps = s.straps := rfl
@[simp] theorem State.modPort_store (f : CellPort → CellPort) : (s.modPort f).store = s.store := rfl
@[simp] theorem State.modPort_conds (f : CellPort → CellPort) : (s.modPort f).conds = s.conds := rfl
@[simp] theorem State.modPort_nest (f : CellPort → CellPort) : (s.modPort f).nest = s.nest := rfl
@[simp] theorem State.modPort_setup (f : CellPort → CellPort) : (s.modPort f).setup = s.setup := rfl
@[simp] theorem State.modPort_locks (f : CellPort → CellPort) : (s.modPort f).locks = s.locks := rfl
@[simp] theorem State.modPort_walking (f : CellPort → CellPort) : (s.modPort f).walking = s.walking := rfl
@[simp] theorem State.modPort_seq (f : CellPort → CellPort) : (s.modPort f).seq = s.seq := rfl
@[simp] theorem State.modPort_fetch (f : CellPort → CellPort) : (s.modPort f).fetch = s.fetch := rfl
@[simp] theorem State.modPort_queue (f : CellPort → CellPort) : (s.modPort f).queue = s.queue := rfl
@[simp] theorem State.modPort_history (f : CellPort → CellPort) : (s.modPort f).history = s.history := rfl
@[simp] theorem State.modPort_gap (f : CellPort → CellPort) : (s.modPort f).gap = s.gap := rfl
@[simp] theorem State.modPort_gen (f : CellPort → CellPort) : (s.modPort f).gen = s.gen := rfl
@[simp] theorem State.modPort_exe (f : CellPort → CellPort) : (s.modPort f).exe = s.exe := rfl
@[simp] theorem State.modPort_thr (f : CellPort → CellPort) : (s.modPort f).thr = s.thr := rfl
@[simp] theorem State.modPort_filters (f : CellPort → CellPort) : (s.modPort f).filters = s.filters := rfl
@[simp] theorem State.modPort_coord (f : CellPort → CellPort) : (s.modPort f).coord = s.coord := rfl
@[simp] theorem State.modPort_port (f : CellPort → CellPort) : (s.modPort f).port = f s.port := rfl
@[simp] theorem State.modPort_link (f : CellPort → CellPort) : (s.modPort f).link = s.link := rfl
@[simp] theorem State.modPort_reports (f : CellPort → CellPort) : (s.modPort f).reports = s.reports := rfl
@[simp] theorem State.modPort_now (f : CellPort → CellPort) : (s.modPort f).now = s.now := rfl
@[simp] theorem State.modPort_raised (f : CellPort → CellPort) : (s.modPort f).raised = s.raised := rfl
@[simp] theorem State.modPort_pending (f : CellPort → CellPort) : (s.modPort f).pending = s.pending := rfl

/-! ### modLink -/

@[simp] theorem State.modLink_straps (f : JobLink → JobLink) : (s.modLink f).straps = s.straps := rfl
@[simp] theorem State.modLink_store (f : JobLink → JobLink) : (s.modLink f).store = s.store := rfl
@[simp] theorem State.modLink_conds (f : JobLink → JobLink) : (s.modLink f).conds = s.conds := rfl
@[simp] theorem State.modLink_nest (f : JobLink → JobLink) : (s.modLink f).nest = s.nest := rfl
@[simp] theorem State.modLink_setup (f : JobLink → JobLink) : (s.modLink f).setup = s.setup := rfl
@[simp] theorem State.modLink_locks (f : JobLink → JobLink) : (s.modLink f).locks = s.locks := rfl
@[simp] theorem State.modLink_walking (f : JobLink → JobLink) : (s.modLink f).walking = s.walking := rfl
@[simp] theorem State.modLink_seq (f : JobLink → JobLink) : (s.modLink f).seq = s.seq := rfl
@[simp] theorem State.modLink_fetch (f : JobLink → JobLink) : (s.modLink f).fetch = s.fetch := rfl
@[simp] theorem State.modLink_queue (f : JobLink → JobLink) : (s.modLink f).queue = s.queue := rfl
@[simp] theorem State.modLink_history (f : JobLink → JobLink) : (s.modLink f).history = s.history := rfl
@[simp] theorem State.modLink_gap (f : JobLink → JobLink) : (s.modLink f).gap = s.gap := rfl
@[simp] theorem State.modLink_gen (f : JobLink → JobLink) : (s.modLink f).gen = s.gen := rfl
@[simp] theorem State.modLink_exe (f : JobLink → JobLink) : (s.modLink f).exe = s.exe := rfl
@[simp] theorem State.modLink_thr (f : JobLink → JobLink) : (s.modLink f).thr = s.thr := rfl
@[simp] theorem State.modLink_filters (f : JobLink → JobLink) : (s.modLink f).filters = s.filters := rfl
@[simp] theorem State.modLink_coord (f : JobLink → JobLink) : (s.modLink f).coord = s.coord := rfl
@[simp] theorem State.modLink_port (f : JobLink → JobLink) : (s.modLink f).port = s.port := rfl
@[simp] theorem State.modLink_link (f : JobLink → JobLink) : (s.modLink f).link = f s.link := rfl
@[simp] theorem State.modLink_reports (f : JobLink → JobLink) : (s.modLink f).reports = s.reports := rfl
@[simp] theorem State.modLink_now (f : JobLink → JobLink) : (s.modLink f).now = s.now := rfl
@[simp] theorem State.modLink_raised (f : JobLink → JobLink) : (s.modLink f).raised = s.raised := rfl
@[simp] theorem State.modLink_pending (f : JobLink → JobLink) : (s.modLink f).pending = s.pending := rfl

/-! ### modReports -/

@[simp] theorem State.modReports_straps (f : ReportQueue → ReportQueue) : (s.modReports f).straps = s.straps := rfl
@[simp] theorem State.modReports_store (f : ReportQueue → ReportQueue) : (s.modReports f).store = s.store := rfl
@[simp] theorem State.modReports_conds (f : ReportQueue → ReportQueue) : (s.modReports f).conds = s.conds := rfl
@[simp] theorem State.modReports_nest (f : ReportQueue → ReportQueue) : (s.modReports f).nest = s.nest := rfl
@[simp] theorem State.modReports_setup (f : ReportQueue → ReportQueue) : (s.modReports f).setup = s.setup := rfl
@[simp] theorem State.modReports_locks (f : ReportQueue → ReportQueue) : (s.modReports f).locks = s.locks := rfl
@[simp] theorem State.modReports_walking (f : ReportQueue → ReportQueue) : (s.modReports f).walking = s.walking := rfl
@[simp] theorem State.modReports_seq (f : ReportQueue → ReportQueue) : (s.modReports f).seq = s.seq := rfl
@[simp] theorem State.modReports_fetch (f : ReportQueue → ReportQueue) : (s.modReports f).fetch = s.fetch := rfl
@[simp] theorem State.modReports_queue (f : ReportQueue → ReportQueue) : (s.modReports f).queue = s.queue := rfl
@[simp] theorem State.modReports_history (f : ReportQueue → ReportQueue) : (s.modReports f).history = s.history := rfl
@[simp] theorem State.modReports_gap (f : ReportQueue → ReportQueue) : (s.modReports f).gap = s.gap := rfl
@[simp] theorem State.modReports_gen (f : ReportQueue → ReportQueue) : (s.modReports f).gen = s.gen := rfl
@[simp] theorem State.modReports_exe (f : ReportQueue → ReportQueue) : (s.modReports f).exe = s.exe := rfl
@[simp] theorem State.modReports_thr (f : ReportQueue → ReportQueue) : (s.modReports f).thr = s.thr := rfl
@[simp] theorem State.modReports_filters (f : ReportQueue → ReportQueue) : (s.modReports f).filters = s.filters := rfl
@[simp] theorem State.modReports_coord (f : ReportQueue → ReportQueue) : (s.modReports f).coord = s.coord := rfl
@[simp] theorem State.modReports_port (f : ReportQueue → ReportQueue) : (s.modReports f).port = s.port := rfl
@[simp] theorem State.modReports_link (f : ReportQueue → ReportQueue) : (s.modReports f).link = s.link := rfl
@[simp] theorem State.modReports_reports (f : ReportQueue → ReportQueue) : (s.modReports f).reports = f s.reports := rfl
@[simp] theorem State.modReports_now (f : ReportQueue → ReportQueue) : (s.modReports f).now = s.now := rfl
@[simp] theorem State.modReports_raised (f : ReportQueue → ReportQueue) : (s.modReports f).raised = s.raised := rfl
@[simp] theorem State.modReports_pending (f : ReportQueue → ReportQueue) : (s.modReports f).pending = s.pending := rfl

/-! ### setQueue -/

@[simp] theorem State.setQueue_straps (v : List Entry) : (s.setQueue v).straps = s.straps := rfl
@[simp] theorem State.setQueue_store (v : List Entry) : (s.setQueue v).store = s.store := rfl
@[simp] theorem State.setQueue_conds (v : List Entry) : (s.setQueue v).conds = s.conds := rfl
@[simp] theorem State.setQueue_nest (v : List Entry) : (s.setQueue v).nest = s.nest := rfl
@[simp] theorem State.setQueue_setup (v : List Entry) : (s.setQueue v).setup = s.setup := rfl
@[simp] theorem State.setQueue_locks (v : List Entry) : (s.setQueue v).locks = s.locks := rfl
@[simp] theorem State.setQueue_walking (v : List Entry) : (s.setQueue v).walking = s.walking := rfl
@[simp] theorem State.setQueue_seq (v : List Entry) : (s.setQueue v).seq = s.seq := rfl
@[simp] theorem State.setQueue_fetch (v : List Entry) : (s.setQueue v).fetch = s.fetch := rfl
@[simp] theorem State.setQueue_queue (v : List Entry) : (s.setQueue v).queue = v := rfl
@[simp] theorem State.setQueue_history (v : List Entry) : (s.setQueue v).history = s.history := rfl
@[simp] theorem State.setQueue_gap (v : List Entry) : (s.setQueue v).gap = s.gap := rfl
@[simp] theorem State.setQueue_gen (v : List Entry) : (s.setQueue v).gen = s.gen := rfl
@[simp] theorem State.setQueue_exe (v : List Entry) : (s.setQueue v).exe = s.exe := rfl
@[simp] theorem State.setQueue_thr (v : List Entry) : (s.setQueue v).thr = s.thr := rfl
@[simp] theorem State.setQueue_filters (v : List Entry) : (s.setQueue v).filters = s.filters := rfl
@[simp] theorem State.setQueue_coord (v : List Entry) : (s.setQueue v).coord = s.coord := rfl
@[simp] theorem State.setQueue_port (v : List Entry) : (s.setQueue v).port = s.port := rfl
@[simp] theorem State.setQueue_link (v : List Entry) : (s.setQueue v).link = s.link := rfl
@[simp] theorem State.setQueue_reports (v : List Entry) : (s.setQueue v).reports = s.reports := rfl
@[simp] theorem State.setQueue_now (v : List Entry) : (s.setQueue v).now = s.now := rfl
@[simp] theorem State.setQueue_raised (v : List Entry) : (s.setQueue v).raised = s.raised := rfl
@[simp] theorem State.setQueue_pending (v : List Entry) : (s.setQueue v).pending = s.pending := rfl

/-! ### setHistory -/

@[simp] theorem State.setHistory_straps (v : List Entry) : (s.setHistory v).straps = s.straps := rfl
@[simp] theorem State.setHistory_store (v : List Entry) : (s.setHistory v).store = s.store := rfl
@[simp] theorem State.setHistory_conds (v : List Entry) : (s.setHistory v).conds = s.conds := rfl
@[simp] theorem State.setHistory_nest (v : List Entry) : (s.setHistory v).nest = s.nest := rfl
@[simp] theorem State.setHistory_setup (v : List Entry) : (s.setHistory v).setup = s.setup := rfl
@[simp] theorem State.setHistory_locks (v : List Entry) : (s.setHistory v).locks = s.locks := rfl
@[simp] theorem State.setHistory_walking (v : List Entry) : (s.setHistory v).walking = s.walking := rfl
@[simp] theorem State.setHistory_seq (v : List Entry) : (s.setHistory v).seq = s.seq := rfl
@[simp] theorem State.setHistory_fetch (v : List Entry) : (s.setHistory v).fetch = s.fetch := rfl
@[simp] theorem State.setHistory_queue (v : List Entry) : (s.setHistory v).queue = s.queue := rfl
@[simp] theorem State.setHistory_history (v : List Entry) : (s.setHistory v).history = v := rfl
@[simp] theorem State.setHistory_gap (v : List Entry) : (s.setHistory v).gap = s.gap := rfl
@[simp] theorem State.setHistory_gen (v : List Entry) : (s.setHistory v).gen = s.gen := rfl
@[simp] theorem State.setHistory_exe (v : List Entry) : (s.setHistory v).exe = s.exe := rfl
@[simp] theorem State.setHistory_thr (v : List Entry) : (s.setHistory v).thr = s.thr := rfl
@[simp] theorem State.setHistory_filters (v : List Entry) : (s.setHistory v).filters = s.filters := rfl
@[simp] theorem State.setHistory_coord (v : List Entry) : (s.setHistory v).coord = s.coord := rfl
@[simp] theorem State.setHistory_port (v : List Entry) : (s.setHistory v).port = s.port := rfl
@[simp] theorem State.setHistory_link (v : List Entry) : (s.setHistory v).link = s.link := rfl
@[simp] theorem State.setHistory_reports (v : List Entry) : (s.setHistory v).reports = s.reports := rfl
@[simp] theorem State.setHistory_now (v : List Entry) : (s.setHistory v).now = s.now := rfl
@[simp] theorem State.setHistory_raised (v : List Entry) : (s.setHistory v).raised = s.raised := rfl
@[simp] theorem State.setHistory_pending (v : List Entry) : (s.setHistory v).pending = s.pending := rfl

/-! ### setStore -/

@[simp] theorem State.setStore_straps (v : List Host.Cell) : (s.setStore v).straps = s.straps := rfl
@[simp] theorem State.setStore_store (v : List Host.Cell) : (s.setStore v).store = v := rfl
@[simp] theorem State.setStore_conds (v : List Host.Cell) : (s.setStore v).conds = s.conds := rfl
@[simp] theorem State.setStore_nest (v : List Host.Cell) : (s.setStore v).nest = s.nest := rfl
@[simp] theorem State.setStore_setup (v : List Host.Cell) : (s.setStore v).setup = s.setup := rfl
@[simp] theorem State.setStore_locks (v : List Host.Cell) : (s.setStore v).locks = s.locks := rfl
@[simp] theorem State.setStore_walking (v : List Host.Cell) : (s.setStore v).walking = s.walking := rfl
@[simp] theorem State.setStore_seq (v : List Host.Cell) : (s.setStore v).seq = s.seq := rfl
@[simp] theorem State.setStore_fetch (v : List Host.Cell) : (s.setStore v).fetch = s.fetch := rfl
@[simp] theorem State.setStore_queue (v : List Host.Cell) : (s.setStore v).queue = s.queue := rfl
@[simp] theorem State.setStore_history (v : List Host.Cell) : (s.setStore v).history = s.history := rfl
@[simp] theorem State.setStore_gap (v : List Host.Cell) : (s.setStore v).gap = s.gap := rfl
@[simp] theorem State.setStore_gen (v : List Host.Cell) : (s.setStore v).gen = s.gen := rfl
@[simp] theorem State.setStore_exe (v : List Host.Cell) : (s.setStore v).exe = s.exe := rfl
@[simp] theorem State.setStore_thr (v : List Host.Cell) : (s.setStore v).thr = s.thr := rfl
@[simp] theorem State.setStore_filters (v : List Host.Cell) : (s.setStore v).filters = s.filters := rfl
@[simp] theorem State.setStore_coord (v : List Host.Cell) : (s.setStore v).coord = s.coord := rfl
@[simp] theorem State.setStore_port (v : List Host.Cell) : (s.setStore v).port = s.port := rfl
@[simp] theorem State.setStore_link (v : List Host.Cell) : (s.setStore v).link = s.link := rfl
@[simp] theorem State.setStore_reports (v : List Host.Cell) : (s.setStore v).reports = s.reports := rfl
@[simp] theorem State.setStore_now (v : List Host.Cell) : (s.setStore v).now = s.now := rfl
@[simp] theorem State.setStore_raised (v : List Host.Cell) : (s.setStore v).raised = s.raised := rfl
@[simp] theorem State.setStore_pending (v : List Host.Cell) : (s.setStore v).pending = s.pending := rfl

/-! ### setConds -/

@[simp] theorem State.setConds_straps (v : Vector Condition 16) : (s.setConds v).straps = s.straps := rfl
@[simp] theorem State.setConds_store (v : Vector Condition 16) : (s.setConds v).store = s.store := rfl
@[simp] theorem State.setConds_conds (v : Vector Condition 16) : (s.setConds v).conds = v := rfl
@[simp] theorem State.setConds_nest (v : Vector Condition 16) : (s.setConds v).nest = s.nest := rfl
@[simp] theorem State.setConds_setup (v : Vector Condition 16) : (s.setConds v).setup = s.setup := rfl
@[simp] theorem State.setConds_locks (v : Vector Condition 16) : (s.setConds v).locks = s.locks := rfl
@[simp] theorem State.setConds_walking (v : Vector Condition 16) : (s.setConds v).walking = s.walking := rfl
@[simp] theorem State.setConds_seq (v : Vector Condition 16) : (s.setConds v).seq = s.seq := rfl
@[simp] theorem State.setConds_fetch (v : Vector Condition 16) : (s.setConds v).fetch = s.fetch := rfl
@[simp] theorem State.setConds_queue (v : Vector Condition 16) : (s.setConds v).queue = s.queue := rfl
@[simp] theorem State.setConds_history (v : Vector Condition 16) : (s.setConds v).history = s.history := rfl
@[simp] theorem State.setConds_gap (v : Vector Condition 16) : (s.setConds v).gap = s.gap := rfl
@[simp] theorem State.setConds_gen (v : Vector Condition 16) : (s.setConds v).gen = s.gen := rfl
@[simp] theorem State.setConds_exe (v : Vector Condition 16) : (s.setConds v).exe = s.exe := rfl
@[simp] theorem State.setConds_thr (v : Vector Condition 16) : (s.setConds v).thr = s.thr := rfl
@[simp] theorem State.setConds_filters (v : Vector Condition 16) : (s.setConds v).filters = s.filters := rfl
@[simp] theorem State.setConds_coord (v : Vector Condition 16) : (s.setConds v).coord = s.coord := rfl
@[simp] theorem State.setConds_port (v : Vector Condition 16) : (s.setConds v).port = s.port := rfl
@[simp] theorem State.setConds_link (v : Vector Condition 16) : (s.setConds v).link = s.link := rfl
@[simp] theorem State.setConds_reports (v : Vector Condition 16) : (s.setConds v).reports = s.reports := rfl
@[simp] theorem State.setConds_now (v : Vector Condition 16) : (s.setConds v).now = s.now := rfl
@[simp] theorem State.setConds_raised (v : Vector Condition 16) : (s.setConds v).raised = s.raised := rfl
@[simp] theorem State.setConds_pending (v : Vector Condition 16) : (s.setConds v).pending = s.pending := rfl

/-! ### setSetup -/

@[simp] theorem State.setSetup_straps (v : Setup) : (s.setSetup v).straps = s.straps := rfl
@[simp] theorem State.setSetup_store (v : Setup) : (s.setSetup v).store = s.store := rfl
@[simp] theorem State.setSetup_conds (v : Setup) : (s.setSetup v).conds = s.conds := rfl
@[simp] theorem State.setSetup_nest (v : Setup) : (s.setSetup v).nest = s.nest := rfl
@[simp] theorem State.setSetup_setup (v : Setup) : (s.setSetup v).setup = v := rfl
@[simp] theorem State.setSetup_locks (v : Setup) : (s.setSetup v).locks = s.locks := rfl
@[simp] theorem State.setSetup_walking (v : Setup) : (s.setSetup v).walking = s.walking := rfl
@[simp] theorem State.setSetup_seq (v : Setup) : (s.setSetup v).seq = s.seq := rfl
@[simp] theorem State.setSetup_fetch (v : Setup) : (s.setSetup v).fetch = s.fetch := rfl
@[simp] theorem State.setSetup_queue (v : Setup) : (s.setSetup v).queue = s.queue := rfl
@[simp] theorem State.setSetup_history (v : Setup) : (s.setSetup v).history = s.history := rfl
@[simp] theorem State.setSetup_gap (v : Setup) : (s.setSetup v).gap = s.gap := rfl
@[simp] theorem State.setSetup_gen (v : Setup) : (s.setSetup v).gen = s.gen := rfl
@[simp] theorem State.setSetup_exe (v : Setup) : (s.setSetup v).exe = s.exe := rfl
@[simp] theorem State.setSetup_thr (v : Setup) : (s.setSetup v).thr = s.thr := rfl
@[simp] theorem State.setSetup_filters (v : Setup) : (s.setSetup v).filters = s.filters := rfl
@[simp] theorem State.setSetup_coord (v : Setup) : (s.setSetup v).coord = s.coord := rfl
@[simp] theorem State.setSetup_port (v : Setup) : (s.setSetup v).port = s.port := rfl
@[simp] theorem State.setSetup_link (v : Setup) : (s.setSetup v).link = s.link := rfl
@[simp] theorem State.setSetup_reports (v : Setup) : (s.setSetup v).reports = s.reports := rfl
@[simp] theorem State.setSetup_now (v : Setup) : (s.setSetup v).now = s.now := rfl
@[simp] theorem State.setSetup_raised (v : Setup) : (s.setSetup v).raised = s.raised := rfl
@[simp] theorem State.setSetup_pending (v : Setup) : (s.setSetup v).pending = s.pending := rfl

/-! ### setLocks -/

@[simp] theorem State.setLocks_straps (v : List Nat) : (s.setLocks v).straps = s.straps := rfl
@[simp] theorem State.setLocks_store (v : List Nat) : (s.setLocks v).store = s.store := rfl
@[simp] theorem State.setLocks_conds (v : List Nat) : (s.setLocks v).conds = s.conds := rfl
@[simp] theorem State.setLocks_nest (v : List Nat) : (s.setLocks v).nest = s.nest := rfl
@[simp] theorem State.setLocks_setup (v : List Nat) : (s.setLocks v).setup = s.setup := rfl
@[simp] theorem State.setLocks_locks (v : List Nat) : (s.setLocks v).locks = v := rfl
@[simp] theorem State.setLocks_walking (v : List Nat) : (s.setLocks v).walking = s.walking := rfl
@[simp] theorem State.setLocks_seq (v : List Nat) : (s.setLocks v).seq = s.seq := rfl
@[simp] theorem State.setLocks_fetch (v : List Nat) : (s.setLocks v).fetch = s.fetch := rfl
@[simp] theorem State.setLocks_queue (v : List Nat) : (s.setLocks v).queue = s.queue := rfl
@[simp] theorem State.setLocks_history (v : List Nat) : (s.setLocks v).history = s.history := rfl
@[simp] theorem State.setLocks_gap (v : List Nat) : (s.setLocks v).gap = s.gap := rfl
@[simp] theorem State.setLocks_gen (v : List Nat) : (s.setLocks v).gen = s.gen := rfl
@[simp] theorem State.setLocks_exe (v : List Nat) : (s.setLocks v).exe = s.exe := rfl
@[simp] theorem State.setLocks_thr (v : List Nat) : (s.setLocks v).thr = s.thr := rfl
@[simp] theorem State.setLocks_filters (v : List Nat) : (s.setLocks v).filters = s.filters := rfl
@[simp] theorem State.setLocks_coord (v : List Nat) : (s.setLocks v).coord = s.coord := rfl
@[simp] theorem State.setLocks_port (v : List Nat) : (s.setLocks v).port = s.port := rfl
@[simp] theorem State.setLocks_link (v : List Nat) : (s.setLocks v).link = s.link := rfl
@[simp] theorem State.setLocks_reports (v : List Nat) : (s.setLocks v).reports = s.reports := rfl
@[simp] theorem State.setLocks_now (v : List Nat) : (s.setLocks v).now = s.now := rfl
@[simp] theorem State.setLocks_raised (v : List Nat) : (s.setLocks v).raised = s.raised := rfl
@[simp] theorem State.setLocks_pending (v : List Nat) : (s.setLocks v).pending = s.pending := rfl

/-! ### setWalking -/

@[simp] theorem State.setWalking_straps (v : Bool) : (s.setWalking v).straps = s.straps := rfl
@[simp] theorem State.setWalking_store (v : Bool) : (s.setWalking v).store = s.store := rfl
@[simp] theorem State.setWalking_conds (v : Bool) : (s.setWalking v).conds = s.conds := rfl
@[simp] theorem State.setWalking_nest (v : Bool) : (s.setWalking v).nest = s.nest := rfl
@[simp] theorem State.setWalking_setup (v : Bool) : (s.setWalking v).setup = s.setup := rfl
@[simp] theorem State.setWalking_locks (v : Bool) : (s.setWalking v).locks = s.locks := rfl
@[simp] theorem State.setWalking_walking (v : Bool) : (s.setWalking v).walking = v := rfl
@[simp] theorem State.setWalking_seq (v : Bool) : (s.setWalking v).seq = s.seq := rfl
@[simp] theorem State.setWalking_fetch (v : Bool) : (s.setWalking v).fetch = s.fetch := rfl
@[simp] theorem State.setWalking_queue (v : Bool) : (s.setWalking v).queue = s.queue := rfl
@[simp] theorem State.setWalking_history (v : Bool) : (s.setWalking v).history = s.history := rfl
@[simp] theorem State.setWalking_gap (v : Bool) : (s.setWalking v).gap = s.gap := rfl
@[simp] theorem State.setWalking_gen (v : Bool) : (s.setWalking v).gen = s.gen := rfl
@[simp] theorem State.setWalking_exe (v : Bool) : (s.setWalking v).exe = s.exe := rfl
@[simp] theorem State.setWalking_thr (v : Bool) : (s.setWalking v).thr = s.thr := rfl
@[simp] theorem State.setWalking_filters (v : Bool) : (s.setWalking v).filters = s.filters := rfl
@[simp] theorem State.setWalking_coord (v : Bool) : (s.setWalking v).coord = s.coord := rfl
@[simp] theorem State.setWalking_port (v : Bool) : (s.setWalking v).port = s.port := rfl
@[simp] theorem State.setWalking_link (v : Bool) : (s.setWalking v).link = s.link := rfl
@[simp] theorem State.setWalking_reports (v : Bool) : (s.setWalking v).reports = s.reports := rfl
@[simp] theorem State.setWalking_now (v : Bool) : (s.setWalking v).now = s.now := rfl
@[simp] theorem State.setWalking_raised (v : Bool) : (s.setWalking v).raised = s.raised := rfl
@[simp] theorem State.setWalking_pending (v : Bool) : (s.setWalking v).pending = s.pending := rfl

/-! ### setRaised -/

@[simp] theorem State.setRaised_straps (v : List (Input × Level)) : (s.setRaised v).straps = s.straps := rfl
@[simp] theorem State.setRaised_store (v : List (Input × Level)) : (s.setRaised v).store = s.store := rfl
@[simp] theorem State.setRaised_conds (v : List (Input × Level)) : (s.setRaised v).conds = s.conds := rfl
@[simp] theorem State.setRaised_nest (v : List (Input × Level)) : (s.setRaised v).nest = s.nest := rfl
@[simp] theorem State.setRaised_setup (v : List (Input × Level)) : (s.setRaised v).setup = s.setup := rfl
@[simp] theorem State.setRaised_locks (v : List (Input × Level)) : (s.setRaised v).locks = s.locks := rfl
@[simp] theorem State.setRaised_walking (v : List (Input × Level)) : (s.setRaised v).walking = s.walking := rfl
@[simp] theorem State.setRaised_seq (v : List (Input × Level)) : (s.setRaised v).seq = s.seq := rfl
@[simp] theorem State.setRaised_fetch (v : List (Input × Level)) : (s.setRaised v).fetch = s.fetch := rfl
@[simp] theorem State.setRaised_queue (v : List (Input × Level)) : (s.setRaised v).queue = s.queue := rfl
@[simp] theorem State.setRaised_history (v : List (Input × Level)) : (s.setRaised v).history = s.history := rfl
@[simp] theorem State.setRaised_gap (v : List (Input × Level)) : (s.setRaised v).gap = s.gap := rfl
@[simp] theorem State.setRaised_gen (v : List (Input × Level)) : (s.setRaised v).gen = s.gen := rfl
@[simp] theorem State.setRaised_exe (v : List (Input × Level)) : (s.setRaised v).exe = s.exe := rfl
@[simp] theorem State.setRaised_thr (v : List (Input × Level)) : (s.setRaised v).thr = s.thr := rfl
@[simp] theorem State.setRaised_filters (v : List (Input × Level)) : (s.setRaised v).filters = s.filters := rfl
@[simp] theorem State.setRaised_coord (v : List (Input × Level)) : (s.setRaised v).coord = s.coord := rfl
@[simp] theorem State.setRaised_port (v : List (Input × Level)) : (s.setRaised v).port = s.port := rfl
@[simp] theorem State.setRaised_link (v : List (Input × Level)) : (s.setRaised v).link = s.link := rfl
@[simp] theorem State.setRaised_reports (v : List (Input × Level)) : (s.setRaised v).reports = s.reports := rfl
@[simp] theorem State.setRaised_now (v : List (Input × Level)) : (s.setRaised v).now = s.now := rfl
@[simp] theorem State.setRaised_raised (v : List (Input × Level)) : (s.setRaised v).raised = v := rfl
@[simp] theorem State.setRaised_pending (v : List (Input × Level)) : (s.setRaised v).pending = s.pending := rfl

/-! ### setNow -/

@[simp] theorem State.setNow_straps (v : Nat) : (s.setNow v).straps = s.straps := rfl
@[simp] theorem State.setNow_store (v : Nat) : (s.setNow v).store = s.store := rfl
@[simp] theorem State.setNow_conds (v : Nat) : (s.setNow v).conds = s.conds := rfl
@[simp] theorem State.setNow_nest (v : Nat) : (s.setNow v).nest = s.nest := rfl
@[simp] theorem State.setNow_setup (v : Nat) : (s.setNow v).setup = s.setup := rfl
@[simp] theorem State.setNow_locks (v : Nat) : (s.setNow v).locks = s.locks := rfl
@[simp] theorem State.setNow_walking (v : Nat) : (s.setNow v).walking = s.walking := rfl
@[simp] theorem State.setNow_seq (v : Nat) : (s.setNow v).seq = s.seq := rfl
@[simp] theorem State.setNow_fetch (v : Nat) : (s.setNow v).fetch = s.fetch := rfl
@[simp] theorem State.setNow_queue (v : Nat) : (s.setNow v).queue = s.queue := rfl
@[simp] theorem State.setNow_history (v : Nat) : (s.setNow v).history = s.history := rfl
@[simp] theorem State.setNow_gap (v : Nat) : (s.setNow v).gap = s.gap := rfl
@[simp] theorem State.setNow_gen (v : Nat) : (s.setNow v).gen = s.gen := rfl
@[simp] theorem State.setNow_exe (v : Nat) : (s.setNow v).exe = s.exe := rfl
@[simp] theorem State.setNow_thr (v : Nat) : (s.setNow v).thr = s.thr := rfl
@[simp] theorem State.setNow_filters (v : Nat) : (s.setNow v).filters = s.filters := rfl
@[simp] theorem State.setNow_coord (v : Nat) : (s.setNow v).coord = s.coord := rfl
@[simp] theorem State.setNow_port (v : Nat) : (s.setNow v).port = s.port := rfl
@[simp] theorem State.setNow_link (v : Nat) : (s.setNow v).link = s.link := rfl
@[simp] theorem State.setNow_reports (v : Nat) : (s.setNow v).reports = s.reports := rfl
@[simp] theorem State.setNow_now (v : Nat) : (s.setNow v).now = v := rfl
@[simp] theorem State.setNow_raised (v : Nat) : (s.setNow v).raised = s.raised := rfl
@[simp] theorem State.setNow_pending (v : Nat) : (s.setNow v).pending = s.pending := rfl

/-! ### setPending -/

@[simp] theorem State.setPending_straps (v : List Instr) : (s.setPending v).straps = s.straps := rfl
@[simp] theorem State.setPending_store (v : List Instr) : (s.setPending v).store = s.store := rfl
@[simp] theorem State.setPending_conds (v : List Instr) : (s.setPending v).conds = s.conds := rfl
@[simp] theorem State.setPending_nest (v : List Instr) : (s.setPending v).nest = s.nest := rfl
@[simp] theorem State.setPending_setup (v : List Instr) : (s.setPending v).setup = s.setup := rfl
@[simp] theorem State.setPending_locks (v : List Instr) : (s.setPending v).locks = s.locks := rfl
@[simp] theorem State.setPending_walking (v : List Instr) : (s.setPending v).walking = s.walking := rfl
@[simp] theorem State.setPending_seq (v : List Instr) : (s.setPending v).seq = s.seq := rfl
@[simp] theorem State.setPending_fetch (v : List Instr) : (s.setPending v).fetch = s.fetch := rfl
@[simp] theorem State.setPending_queue (v : List Instr) : (s.setPending v).queue = s.queue := rfl
@[simp] theorem State.setPending_history (v : List Instr) : (s.setPending v).history = s.history := rfl
@[simp] theorem State.setPending_gap (v : List Instr) : (s.setPending v).gap = s.gap := rfl
@[simp] theorem State.setPending_gen (v : List Instr) : (s.setPending v).gen = s.gen := rfl
@[simp] theorem State.setPending_exe (v : List Instr) : (s.setPending v).exe = s.exe := rfl
@[simp] theorem State.setPending_thr (v : List Instr) : (s.setPending v).thr = s.thr := rfl
@[simp] theorem State.setPending_filters (v : List Instr) : (s.setPending v).filters = s.filters := rfl
@[simp] theorem State.setPending_coord (v : List Instr) : (s.setPending v).coord = s.coord := rfl
@[simp] theorem State.setPending_port (v : List Instr) : (s.setPending v).port = s.port := rfl
@[simp] theorem State.setPending_link (v : List Instr) : (s.setPending v).link = s.link := rfl
@[simp] theorem State.setPending_reports (v : List Instr) : (s.setPending v).reports = s.reports := rfl
@[simp] theorem State.setPending_now (v : List Instr) : (s.setPending v).now = s.now := rfl
@[simp] theorem State.setPending_raised (v : List Instr) : (s.setPending v).raised = s.raised := rfl
@[simp] theorem State.setPending_pending (v : List Instr) : (s.setPending v).pending = v := rfl

end Sys2Proof.Machine
end

