-- ==== Sys2Proof/Laws/Ops.lean ====
section
/-! SUPPORT. What each operation of Machine/Ops.lean leaves unchanged: one lemma per operation, read field by
field by `simp`. -/

namespace Sys2Proof.Machine

variable (s : State)

@[simp] theorem queueReport_frame (k : ReportKind) (p : Option PartNo) (c : Option Cause) (d : Nat) :
    (queueReport k p c d s).straps = s.straps ∧
    (queueReport k p c d s).store = s.store ∧
    (queueReport k p c d s).conds = s.conds ∧
    (queueReport k p c d s).nest = s.nest ∧
    (queueReport k p c d s).setup = s.setup ∧
    (queueReport k p c d s).locks = s.locks ∧
    (queueReport k p c d s).walking = s.walking ∧
    (queueReport k p c d s).seq = s.seq ∧
    (queueReport k p c d s).fetch = s.fetch ∧
    (queueReport k p c d s).queue = s.queue ∧
    (queueReport k p c d s).history = s.history ∧
    (queueReport k p c d s).gap = s.gap ∧
    (queueReport k p c d s).gen = s.gen ∧
    (queueReport k p c d s).exe = s.exe ∧
    (queueReport k p c d s).thr = s.thr ∧
    (queueReport k p c d s).filters = s.filters ∧
    (queueReport k p c d s).coord = s.coord ∧
    (queueReport k p c d s).port = s.port ∧
    (queueReport k p c d s).link = s.link ∧
    (queueReport k p c d s).now = s.now ∧
    (queueReport k p c d s).raised = s.raised ∧
    (queueReport k p c d s).pending = s.pending := by
  and_intros <;> rfl

@[simp] theorem modPart_frame (p : PartNo) (f : PartRecord → PartRecord) :
    (modPart p f s).straps = s.straps ∧
    (modPart p f s).store = s.store ∧
    (modPart p f s).conds = s.conds ∧
    (modPart p f s).setup = s.setup ∧
    (modPart p f s).locks = s.locks ∧
    (modPart p f s).walking = s.walking ∧
    (modPart p f s).seq = s.seq ∧
    (modPart p f s).fetch = s.fetch ∧
    (modPart p f s).queue = s.queue ∧
    (modPart p f s).history = s.history ∧
    (modPart p f s).gap = s.gap ∧
    (modPart p f s).gen = s.gen ∧
    (modPart p f s).exe = s.exe ∧
    (modPart p f s).thr = s.thr ∧
    (modPart p f s).filters = s.filters ∧
    (modPart p f s).coord = s.coord ∧
    (modPart p f s).port = s.port ∧
    (modPart p f s).link = s.link ∧
    (modPart p f s).reports = s.reports ∧
    (modPart p f s).now = s.now ∧
    (modPart p f s).raised = s.raised ∧
    (modPart p f s).pending = s.pending := by
  and_intros <;> rfl

@[simp] theorem partReport_frame (p : PartNo) (c : Option Cause) :
    (partReport p c s).straps = s.straps ∧
    (partReport p c s).store = s.store ∧
    (partReport p c s).conds = s.conds ∧
    (partReport p c s).nest = s.nest ∧
    (partReport p c s).setup = s.setup ∧
    (partReport p c s).locks = s.locks ∧
    (partReport p c s).walking = s.walking ∧
    (partReport p c s).seq = s.seq ∧
    (partReport p c s).fetch = s.fetch ∧
    (partReport p c s).queue = s.queue ∧
    (partReport p c s).history = s.history ∧
    (partReport p c s).gap = s.gap ∧
    (partReport p c s).gen = s.gen ∧
    (partReport p c s).exe = s.exe ∧
    (partReport p c s).thr = s.thr ∧
    (partReport p c s).filters = s.filters ∧
    (partReport p c s).coord = s.coord ∧
    (partReport p c s).port = s.port ∧
    (partReport p c s).link = s.link ∧
    (partReport p c s).now = s.now ∧
    (partReport p c s).raised = s.raised ∧
    (partReport p c s).pending = s.pending := by
  and_intros <;> rfl

@[simp] theorem interrupt_frame (c : Cause) (p : PartNo) :
    (interrupt c p s).straps = s.straps ∧
    (interrupt c p s).store = s.store ∧
    (interrupt c p s).conds = s.conds ∧
    (interrupt c p s).setup = s.setup ∧
    (interrupt c p s).locks = s.locks ∧
    (interrupt c p s).walking = s.walking ∧
    (interrupt c p s).seq = s.seq ∧
    (interrupt c p s).fetch = s.fetch ∧
    (interrupt c p s).queue = s.queue ∧
    (interrupt c p s).history = s.history ∧
    (interrupt c p s).gap = s.gap ∧
    (interrupt c p s).gen = s.gen ∧
    (interrupt c p s).exe = s.exe ∧
    (interrupt c p s).thr = s.thr ∧
    (interrupt c p s).filters = s.filters ∧
    (interrupt c p s).coord = s.coord ∧
    (interrupt c p s).port = s.port ∧
    (interrupt c p s).link = s.link ∧
    (interrupt c p s).now = s.now ∧
    (interrupt c p s).raised = s.raised ∧
    (interrupt c p s).pending = s.pending := by
  and_intros <;> rfl

@[simp] theorem interruptCurrent_frame (c : Cause) :
    (interruptCurrent c s).straps = s.straps ∧
    (interruptCurrent c s).store = s.store ∧
    (interruptCurrent c s).conds = s.conds ∧
    (interruptCurrent c s).setup = s.setup ∧
    (interruptCurrent c s).locks = s.locks ∧
    (interruptCurrent c s).walking = s.walking ∧
    (interruptCurrent c s).seq = s.seq ∧
    (interruptCurrent c s).fetch = s.fetch ∧
    (interruptCurrent c s).queue = s.queue ∧
    (interruptCurrent c s).history = s.history ∧
    (interruptCurrent c s).gap = s.gap ∧
    (interruptCurrent c s).gen = s.gen ∧
    (interruptCurrent c s).exe = s.exe ∧
    (interruptCurrent c s).thr = s.thr ∧
    (interruptCurrent c s).filters = s.filters ∧
    (interruptCurrent c s).coord = s.coord ∧
    (interruptCurrent c s).port = s.port ∧
    (interruptCurrent c s).link = s.link ∧
    (interruptCurrent c s).now = s.now ∧
    (interruptCurrent c s).raised = s.raised ∧
    (interruptCurrent c s).pending = s.pending := by
  unfold interruptCurrent; split <;> simp

@[simp] theorem modFilter_frame (i : Input) (g : Filter → Filter) :
    (modFilter i g s).straps = s.straps ∧
    (modFilter i g s).store = s.store ∧
    (modFilter i g s).conds = s.conds ∧
    (modFilter i g s).nest = s.nest ∧
    (modFilter i g s).setup = s.setup ∧
    (modFilter i g s).locks = s.locks ∧
    (modFilter i g s).walking = s.walking ∧
    (modFilter i g s).seq = s.seq ∧
    (modFilter i g s).fetch = s.fetch ∧
    (modFilter i g s).queue = s.queue ∧
    (modFilter i g s).history = s.history ∧
    (modFilter i g s).gap = s.gap ∧
    (modFilter i g s).gen = s.gen ∧
    (modFilter i g s).exe = s.exe ∧
    (modFilter i g s).thr = s.thr ∧
    (modFilter i g s).coord = s.coord ∧
    (modFilter i g s).port = s.port ∧
    (modFilter i g s).link = s.link ∧
    (modFilter i g s).reports = s.reports ∧
    (modFilter i g s).now = s.now ∧
    (modFilter i g s).raised = s.raised ∧
    (modFilter i g s).pending = s.pending := by
  and_intros <;> rfl

@[simp] theorem follow_frame (i : Input) :
    (follow i s).straps = s.straps ∧
    (follow i s).store = s.store ∧
    (follow i s).conds = s.conds ∧
    (follow i s).nest = s.nest ∧
    (follow i s).setup = s.setup ∧
    (follow i s).locks = s.locks ∧
    (follow i s).walking = s.walking ∧
    (follow i s).seq = s.seq ∧
    (follow i s).fetch = s.fetch ∧
    (follow i s).queue = s.queue ∧
    (follow i s).history = s.history ∧
    (follow i s).gap = s.gap ∧
    (follow i s).gen = s.gen ∧
    (follow i s).exe = s.exe ∧
    (follow i s).thr = s.thr ∧
    (follow i s).coord = s.coord ∧
    (follow i s).port = s.port ∧
    (follow i s).link = s.link ∧
    (follow i s).reports = s.reports ∧
    (follow i s).now = s.now ∧
    (follow i s).raised = s.raised ∧
    (follow i s).pending = s.pending := by
  and_intros <;> rfl

@[simp] theorem followTo_frame (i : Input) (l : Level) :
    (followTo i l s).straps = s.straps ∧
    (followTo i l s).store = s.store ∧
    (followTo i l s).conds = s.conds ∧
    (followTo i l s).nest = s.nest ∧
    (followTo i l s).setup = s.setup ∧
    (followTo i l s).locks = s.locks ∧
    (followTo i l s).walking = s.walking ∧
    (followTo i l s).seq = s.seq ∧
    (followTo i l s).fetch = s.fetch ∧
    (followTo i l s).queue = s.queue ∧
    (followTo i l s).history = s.history ∧
    (followTo i l s).gap = s.gap ∧
    (followTo i l s).gen = s.gen ∧
    (followTo i l s).exe = s.exe ∧
    (followTo i l s).thr = s.thr ∧
    (followTo i l s).coord = s.coord ∧
    (followTo i l s).port = s.port ∧
    (followTo i l s).link = s.link ∧
    (followTo i l s).reports = s.reports ∧
    (followTo i l s).now = s.now ∧
    (followTo i l s).raised = s.raised ∧
    (followTo i l s).pending = s.pending := by
  and_intros <;> rfl

@[simp] theorem expect_frame (i : Input) (l : Level) :
    (expect i l s).straps = s.straps ∧
    (expect i l s).store = s.store ∧
    (expect i l s).conds = s.conds ∧
    (expect i l s).nest = s.nest ∧
    (expect i l s).setup = s.setup ∧
    (expect i l s).locks = s.locks ∧
    (expect i l s).walking = s.walking ∧
    (expect i l s).seq = s.seq ∧
    (expect i l s).fetch = s.fetch ∧
    (expect i l s).queue = s.queue ∧
    (expect i l s).history = s.history ∧
    (expect i l s).gap = s.gap ∧
    (expect i l s).gen = s.gen ∧
    (expect i l s).exe = s.exe ∧
    (expect i l s).thr = s.thr ∧
    (expect i l s).coord = s.coord ∧
    (expect i l s).port = s.port ∧
    (expect i l s).link = s.link ∧
    (expect i l s).reports = s.reports ∧
    (expect i l s).now = s.now ∧
    (expect i l s).pending = s.pending := by
  unfold expect; simp only; split <;> simp

@[simp] theorem answer_frame (st : Status) (p : List Byte) :
    (answer st p s).straps = s.straps ∧
    (answer st p s).store = s.store ∧
    (answer st p s).conds = s.conds ∧
    (answer st p s).nest = s.nest ∧
    (answer st p s).setup = s.setup ∧
    (answer st p s).locks = s.locks ∧
    (answer st p s).walking = s.walking ∧
    (answer st p s).seq = s.seq ∧
    (answer st p s).fetch = s.fetch ∧
    (answer st p s).queue = s.queue ∧
    (answer st p s).history = s.history ∧
    (answer st p s).gap = s.gap ∧
    (answer st p s).gen = s.gen ∧
    (answer st p s).exe = s.exe ∧
    (answer st p s).thr = s.thr ∧
    (answer st p s).filters = s.filters ∧
    (answer st p s).coord = s.coord ∧
    (answer st p s).port = s.port ∧
    (answer st p s).reports = s.reports ∧
    (answer st p s).now = s.now ∧
    (answer st p s).raised = s.raised ∧
    (answer st p s).pending = s.pending := by
  and_intros <;> rfl

end Sys2Proof.Machine
end

