-- ==== Sys2Proof/Laws/Flags.lean ====
section
/-! SUPPORT. What each operation of Machine/Flags.lean leaves unchanged: one lemma per operation, read field by
field by `simp`. -/

namespace Sys2Proof.Machine

variable (s : State)

@[simp] theorem dropCondition_frame :
    (dropCondition s).straps = s.straps ∧
    (dropCondition s).store = s.store ∧
    (dropCondition s).conds = s.conds ∧
    (dropCondition s).nest = s.nest ∧
    (dropCondition s).setup = s.setup ∧
    (dropCondition s).locks = s.locks ∧
    (dropCondition s).walking = s.walking ∧
    (dropCondition s).seq = s.seq ∧
    (dropCondition s).fetch = s.fetch ∧
    (dropCondition s).queue = s.queue ∧
    (dropCondition s).history = s.history ∧
    (dropCondition s).gap = s.gap ∧
    (dropCondition s).exe = s.exe ∧
    (dropCondition s).thr = s.thr ∧
    (dropCondition s).filters = s.filters ∧
    (dropCondition s).coord = s.coord ∧
    (dropCondition s).port = s.port ∧
    (dropCondition s).link = s.link ∧
    (dropCondition s).reports = s.reports ∧
    (dropCondition s).now = s.now ∧
    (dropCondition s).raised = s.raised ∧
    (dropCondition s).pending = s.pending := by
  unfold dropCondition; split <;> simp

@[simp] theorem recomputeAllowances_frame :
    (recomputeAllowances s).straps = s.straps ∧
    (recomputeAllowances s).store = s.store ∧
    (recomputeAllowances s).conds = s.conds ∧
    (recomputeAllowances s).nest = s.nest ∧
    (recomputeAllowances s).setup = s.setup ∧
    (recomputeAllowances s).locks = s.locks ∧
    (recomputeAllowances s).walking = s.walking ∧
    (recomputeAllowances s).seq = s.seq ∧
    (recomputeAllowances s).fetch = s.fetch ∧
    (recomputeAllowances s).queue = s.queue ∧
    (recomputeAllowances s).history = s.history ∧
    (recomputeAllowances s).gap = s.gap ∧
    (recomputeAllowances s).gen = s.gen ∧
    (recomputeAllowances s).exe = s.exe ∧
    (recomputeAllowances s).thr = s.thr ∧
    (recomputeAllowances s).filters = s.filters ∧
    (recomputeAllowances s).port = s.port ∧
    (recomputeAllowances s).link = s.link ∧
    (recomputeAllowances s).reports = s.reports ∧
    (recomputeAllowances s).now = s.now ∧
    (recomputeAllowances s).raised = s.raised ∧
    (recomputeAllowances s).pending = s.pending := by
  and_intros <;> rfl

@[simp] theorem recomputeAllowances_coord :
    (recomputeAllowances s).coord.peers = s.coord.peers ∧
    (recomputeAllowances s).coord.drawn = s.coord.drawn ∧
    (recomputeAllowances s).coord.refresh = s.coord.refresh ∧
    (recomputeAllowances s).coord.mode = s.coord.mode ∧
    (recomputeAllowances s).coord.jet = s.coord.jet ∧
    (recomputeAllowances s).coord.stamp = s.coord.stamp ∧
    (recomputeAllowances s).coord.settle = s.coord.settle ∧
    (recomputeAllowances s).coord.completed = s.coord.completed ∧
    (recomputeAllowances s).coord.cmax = s.coord.cmax ∧
    (recomputeAllowances s).coord.cmaxSeen = s.coord.cmaxSeen := by
  simp [recomputeAllowances]

@[simp] theorem recomputeLevels_frame :
    (recomputeLevels s).straps = s.straps ∧
    (recomputeLevels s).store = s.store ∧
    (recomputeLevels s).conds = s.conds ∧
    (recomputeLevels s).nest = s.nest ∧
    (recomputeLevels s).setup = s.setup ∧
    (recomputeLevels s).locks = s.locks ∧
    (recomputeLevels s).walking = s.walking ∧
    (recomputeLevels s).seq = s.seq ∧
    (recomputeLevels s).fetch = s.fetch ∧
    (recomputeLevels s).queue = s.queue ∧
    (recomputeLevels s).history = s.history ∧
    (recomputeLevels s).gap = s.gap ∧
    (recomputeLevels s).exe = s.exe ∧
    (recomputeLevels s).thr = s.thr ∧
    (recomputeLevels s).filters = s.filters ∧
    (recomputeLevels s).coord = s.coord ∧
    (recomputeLevels s).port = s.port ∧
    (recomputeLevels s).link = s.link ∧
    (recomputeLevels s).reports = s.reports ∧
    (recomputeLevels s).now = s.now ∧
    (recomputeLevels s).raised = s.raised ∧
    (recomputeLevels s).pending = s.pending := by
  and_intros <;> rfl

@[simp] theorem switchGenerator_frame :
    (switchGenerator s).straps = s.straps ∧
    (switchGenerator s).store = s.store ∧
    (switchGenerator s).conds = s.conds ∧
    (switchGenerator s).nest = s.nest ∧
    (switchGenerator s).setup = s.setup ∧
    (switchGenerator s).locks = s.locks ∧
    (switchGenerator s).walking = s.walking ∧
    (switchGenerator s).seq = s.seq ∧
    (switchGenerator s).fetch = s.fetch ∧
    (switchGenerator s).queue = s.queue ∧
    (switchGenerator s).history = s.history ∧
    (switchGenerator s).exe = s.exe ∧
    (switchGenerator s).thr = s.thr ∧
    (switchGenerator s).filters = s.filters ∧
    (switchGenerator s).coord = s.coord ∧
    (switchGenerator s).port = s.port ∧
    (switchGenerator s).link = s.link ∧
    (switchGenerator s).reports = s.reports ∧
    (switchGenerator s).now = s.now ∧
    (switchGenerator s).raised = s.raised ∧
    (switchGenerator s).pending = s.pending := by
  and_intros <;> rfl

@[simp] theorem derive_frame :
    (derive s).straps = s.straps ∧
    (derive s).store = s.store ∧
    (derive s).conds = s.conds ∧
    (derive s).nest = s.nest ∧
    (derive s).setup = s.setup ∧
    (derive s).locks = s.locks ∧
    (derive s).walking = s.walking ∧
    (derive s).seq = s.seq ∧
    (derive s).fetch = s.fetch ∧
    (derive s).queue = s.queue ∧
    (derive s).history = s.history ∧
    (derive s).exe = s.exe ∧
    (derive s).thr = s.thr ∧
    (derive s).filters = s.filters ∧
    (derive s).port = s.port ∧
    (derive s).link = s.link ∧
    (derive s).reports = s.reports ∧
    (derive s).now = s.now ∧
    (derive s).raised = s.raised ∧
    (derive s).pending = s.pending := by
  simp [derive]

@[simp] theorem derive_coord :
    (derive s).coord.peers = s.coord.peers ∧
    (derive s).coord.drawn = s.coord.drawn ∧
    (derive s).coord.refresh = s.coord.refresh ∧
    (derive s).coord.mode = s.coord.mode ∧
    (derive s).coord.jet = s.coord.jet ∧
    (derive s).coord.stamp = s.coord.stamp ∧
    (derive s).coord.settle = s.coord.settle ∧
    (derive s).coord.completed = s.coord.completed ∧
    (derive s).coord.cmax = s.coord.cmax ∧
    (derive s).coord.cmaxSeen = s.coord.cmaxSeen := by
  simp [derive]

@[simp] theorem raiseLevel_frame :
    (raiseLevel s).straps = s.straps ∧
    (raiseLevel s).store = s.store ∧
    (raiseLevel s).conds = s.conds ∧
    (raiseLevel s).nest = s.nest ∧
    (raiseLevel s).setup = s.setup ∧
    (raiseLevel s).locks = s.locks ∧
    (raiseLevel s).walking = s.walking ∧
    (raiseLevel s).seq = s.seq ∧
    (raiseLevel s).fetch = s.fetch ∧
    (raiseLevel s).queue = s.queue ∧
    (raiseLevel s).history = s.history ∧
    (raiseLevel s).gap = s.gap ∧
    (raiseLevel s).exe = s.exe ∧
    (raiseLevel s).thr = s.thr ∧
    (raiseLevel s).filters = s.filters ∧
    (raiseLevel s).coord = s.coord ∧
    (raiseLevel s).port = s.port ∧
    (raiseLevel s).link = s.link ∧
    (raiseLevel s).reports = s.reports ∧
    (raiseLevel s).now = s.now ∧
    (raiseLevel s).raised = s.raised ∧
    (raiseLevel s).pending = s.pending := by
  and_intros <;> rfl

@[simp] theorem setDue_frame :
    (setDue s).straps = s.straps ∧
    (setDue s).store = s.store ∧
    (setDue s).conds = s.conds ∧
    (setDue s).nest = s.nest ∧
    (setDue s).setup = s.setup ∧
    (setDue s).locks = s.locks ∧
    (setDue s).walking = s.walking ∧
    (setDue s).seq = s.seq ∧
    (setDue s).fetch = s.fetch ∧
    (setDue s).queue = s.queue ∧
    (setDue s).history = s.history ∧
    (setDue s).gap = s.gap ∧
    (setDue s).gen = s.gen ∧
    (setDue s).exe = s.exe ∧
    (setDue s).thr = s.thr ∧
    (setDue s).filters = s.filters ∧
    (setDue s).coord = s.coord ∧
    (setDue s).link = s.link ∧
    (setDue s).reports = s.reports ∧
    (setDue s).now = s.now ∧
    (setDue s).raised = s.raised ∧
    (setDue s).pending = s.pending := by
  and_intros <;> rfl

@[simp] theorem announce_frame (before : State) :
    (announce before s).straps = s.straps ∧
    (announce before s).store = s.store ∧
    (announce before s).conds = s.conds ∧
    (announce before s).nest = s.nest ∧
    (announce before s).setup = s.setup ∧
    (announce before s).locks = s.locks ∧
    (announce before s).walking = s.walking ∧
    (announce before s).seq = s.seq ∧
    (announce before s).fetch = s.fetch ∧
    (announce before s).queue = s.queue ∧
    (announce before s).history = s.history ∧
    (announce before s).gap = s.gap ∧
    (announce before s).gen = s.gen ∧
    (announce before s).exe = s.exe ∧
    (announce before s).thr = s.thr ∧
    (announce before s).filters = s.filters ∧
    (announce before s).coord = s.coord ∧
    (announce before s).link = s.link ∧
    (announce before s).reports = s.reports ∧
    (announce before s).now = s.now ∧
    (announce before s).raised = s.raised ∧
    (announce before s).pending = s.pending := by
  unfold announce; split <;> simp

@[simp] theorem seeStamp_frame (n : Nat) :
    (seeStamp n s).straps = s.straps ∧
    (seeStamp n s).store = s.store ∧
    (seeStamp n s).conds = s.conds ∧
    (seeStamp n s).nest = s.nest ∧
    (seeStamp n s).setup = s.setup ∧
    (seeStamp n s).locks = s.locks ∧
    (seeStamp n s).walking = s.walking ∧
    (seeStamp n s).seq = s.seq ∧
    (seeStamp n s).fetch = s.fetch ∧
    (seeStamp n s).queue = s.queue ∧
    (seeStamp n s).history = s.history ∧
    (seeStamp n s).gap = s.gap ∧
    (seeStamp n s).gen = s.gen ∧
    (seeStamp n s).exe = s.exe ∧
    (seeStamp n s).thr = s.thr ∧
    (seeStamp n s).filters = s.filters ∧
    (seeStamp n s).port = s.port ∧
    (seeStamp n s).link = s.link ∧
    (seeStamp n s).reports = s.reports ∧
    (seeStamp n s).now = s.now ∧
    (seeStamp n s).raised = s.raised ∧
    (seeStamp n s).pending = s.pending := by
  unfold seeStamp; split <;> simp

@[simp] theorem seeStamp_coord (n : Nat) :
    (seeStamp n s).coord.peers = s.coord.peers ∧
    (seeStamp n s).coord.drawn = s.coord.drawn ∧
    (seeStamp n s).coord.refresh = s.coord.refresh ∧
    (seeStamp n s).coord.mode = s.coord.mode ∧
    (seeStamp n s).coord.jet = s.coord.jet ∧
    (seeStamp n s).coord.stamp = s.coord.stamp ∧
    (seeStamp n s).coord.settle = s.coord.settle ∧
    (seeStamp n s).coord.completed = s.coord.completed ∧
    (seeStamp n s).coord.ap = s.coord.ap ∧
    (seeStamp n s).coord.af = s.coord.af := by
  unfold seeStamp; split <;> simp

end Sys2Proof.Machine
end

