-- ==== Sys2Proof/Laws/Units.lean ====
section
/-! SUPPORT. What each operation of Machine/Units.lean leaves unchanged: one lemma per operation, read field by
field by `simp`. -/

namespace Sys2Proof.Machine

variable (s : State)

@[simp] theorem releaseJet_frame :
    (releaseJet s).straps = s.straps ∧
    (releaseJet s).store = s.store ∧
    (releaseJet s).conds = s.conds ∧
    (releaseJet s).nest = s.nest ∧
    (releaseJet s).setup = s.setup ∧
    (releaseJet s).locks = s.locks ∧
    (releaseJet s).walking = s.walking ∧
    (releaseJet s).seq = s.seq ∧
    (releaseJet s).fetch = s.fetch ∧
    (releaseJet s).queue = s.queue ∧
    (releaseJet s).history = s.history ∧
    (releaseJet s).gap = s.gap ∧
    (releaseJet s).gen = s.gen ∧
    (releaseJet s).exe = s.exe ∧
    (releaseJet s).thr = s.thr ∧
    (releaseJet s).filters = s.filters ∧
    (releaseJet s).port = s.port ∧
    (releaseJet s).link = s.link ∧
    (releaseJet s).reports = s.reports ∧
    (releaseJet s).now = s.now ∧
    (releaseJet s).raised = s.raised ∧
    (releaseJet s).pending = s.pending := by
  and_intros <;> rfl

@[simp] theorem releaseJet_coord :
    (releaseJet s).coord.peers = s.coord.peers ∧
    (releaseJet s).coord.drawn = s.coord.drawn ∧
    (releaseJet s).coord.mode = s.coord.mode ∧
    (releaseJet s).coord.cmax = s.coord.cmax ∧
    (releaseJet s).coord.cmaxSeen = s.coord.cmaxSeen ∧
    (releaseJet s).coord.ap = s.coord.ap ∧
    (releaseJet s).coord.af = s.coord.af := by
  unfold releaseJet; simp only [State.modCoord_coord]; split <;> simp

@[simp] theorem releaseOutputs_frame :
    (releaseOutputs s).straps = s.straps ∧
    (releaseOutputs s).store = s.store ∧
    (releaseOutputs s).conds = s.conds ∧
    (releaseOutputs s).nest = s.nest ∧
    (releaseOutputs s).setup = s.setup ∧
    (releaseOutputs s).locks = s.locks ∧
    (releaseOutputs s).walking = s.walking ∧
    (releaseOutputs s).seq = s.seq ∧
    (releaseOutputs s).fetch = s.fetch ∧
    (releaseOutputs s).queue = s.queue ∧
    (releaseOutputs s).history = s.history ∧
    (releaseOutputs s).gap = s.gap ∧
    (releaseOutputs s).gen = s.gen ∧
    (releaseOutputs s).exe = s.exe ∧
    (releaseOutputs s).filters = s.filters ∧
    (releaseOutputs s).coord = s.coord ∧
    (releaseOutputs s).port = s.port ∧
    (releaseOutputs s).link = s.link ∧
    (releaseOutputs s).reports = s.reports ∧
    (releaseOutputs s).now = s.now ∧
    (releaseOutputs s).raised = s.raised ∧
    (releaseOutputs s).pending = s.pending := by
  and_intros <;> rfl

@[simp] theorem followWireInputs_frame :
    (followWireInputs s).straps = s.straps ∧
    (followWireInputs s).store = s.store ∧
    (followWireInputs s).conds = s.conds ∧
    (followWireInputs s).nest = s.nest ∧
    (followWireInputs s).setup = s.setup ∧
    (followWireInputs s).locks = s.locks ∧
    (followWireInputs s).walking = s.walking ∧
    (followWireInputs s).seq = s.seq ∧
    (followWireInputs s).fetch = s.fetch ∧
    (followWireInputs s).queue = s.queue ∧
    (followWireInputs s).history = s.history ∧
    (followWireInputs s).gap = s.gap ∧
    (followWireInputs s).gen = s.gen ∧
    (followWireInputs s).exe = s.exe ∧
    (followWireInputs s).thr = s.thr ∧
    (followWireInputs s).coord = s.coord ∧
    (followWireInputs s).port = s.port ∧
    (followWireInputs s).link = s.link ∧
    (followWireInputs s).reports = s.reports ∧
    (followWireInputs s).now = s.now ∧
    (followWireInputs s).raised = s.raised ∧
    (followWireInputs s).pending = s.pending := by
  and_intros <;> rfl

@[simp] theorem endAttempt_frame :
    (endAttempt s).straps = s.straps ∧
    (endAttempt s).store = s.store ∧
    (endAttempt s).conds = s.conds ∧
    (endAttempt s).nest = s.nest ∧
    (endAttempt s).setup = s.setup ∧
    (endAttempt s).locks = s.locks ∧
    (endAttempt s).walking = s.walking ∧
    (endAttempt s).seq = s.seq ∧
    (endAttempt s).fetch = s.fetch ∧
    (endAttempt s).queue = s.queue ∧
    (endAttempt s).history = s.history ∧
    (endAttempt s).gap = s.gap ∧
    (endAttempt s).gen = s.gen ∧
    (endAttempt s).exe = s.exe ∧
    (endAttempt s).port = s.port ∧
    (endAttempt s).link = s.link ∧
    (endAttempt s).reports = s.reports ∧
    (endAttempt s).now = s.now ∧
    (endAttempt s).raised = s.raised ∧
    (endAttempt s).pending = s.pending := by
  simp [endAttempt]

@[simp] theorem endAttempt_coord :
    (endAttempt s).coord.peers = s.coord.peers ∧
    (endAttempt s).coord.drawn = s.coord.drawn ∧
    (endAttempt s).coord.mode = s.coord.mode ∧
    (endAttempt s).coord.cmax = s.coord.cmax ∧
    (endAttempt s).coord.cmaxSeen = s.coord.cmaxSeen ∧
    (endAttempt s).coord.ap = s.coord.ap ∧
    (endAttempt s).coord.af = s.coord.af := by
  simp [endAttempt]

@[simp] theorem stopThreader_frame :
    (stopThreader s).straps = s.straps ∧
    (stopThreader s).store = s.store ∧
    (stopThreader s).conds = s.conds ∧
    (stopThreader s).nest = s.nest ∧
    (stopThreader s).setup = s.setup ∧
    (stopThreader s).locks = s.locks ∧
    (stopThreader s).walking = s.walking ∧
    (stopThreader s).seq = s.seq ∧
    (stopThreader s).fetch = s.fetch ∧
    (stopThreader s).queue = s.queue ∧
    (stopThreader s).history = s.history ∧
    (stopThreader s).gap = s.gap ∧
    (stopThreader s).gen = s.gen ∧
    (stopThreader s).exe = s.exe ∧
    (stopThreader s).port = s.port ∧
    (stopThreader s).link = s.link ∧
    (stopThreader s).reports = s.reports ∧
    (stopThreader s).now = s.now ∧
    (stopThreader s).raised = s.raised ∧
    (stopThreader s).pending = s.pending := by
  simp [stopThreader]

@[simp] theorem stopThreader_coord :
    (stopThreader s).coord.peers = s.coord.peers ∧
    (stopThreader s).coord.drawn = s.coord.drawn ∧
    (stopThreader s).coord.mode = s.coord.mode ∧
    (stopThreader s).coord.cmax = s.coord.cmax ∧
    (stopThreader s).coord.cmaxSeen = s.coord.cmaxSeen ∧
    (stopThreader s).coord.ap = s.coord.ap ∧
    (stopThreader s).coord.af = s.coord.af := by
  simp [stopThreader]

@[simp] theorem discardRequest_frame :
    (discardRequest s).straps = s.straps ∧
    (discardRequest s).store = s.store ∧
    (discardRequest s).conds = s.conds ∧
    (discardRequest s).nest = s.nest ∧
    (discardRequest s).setup = s.setup ∧
    (discardRequest s).locks = s.locks ∧
    (discardRequest s).walking = s.walking ∧
    (discardRequest s).seq = s.seq ∧
    (discardRequest s).fetch = s.fetch ∧
    (discardRequest s).queue = s.queue ∧
    (discardRequest s).history = s.history ∧
    (discardRequest s).gap = s.gap ∧
    (discardRequest s).gen = s.gen ∧
    (discardRequest s).exe = s.exe ∧
    (discardRequest s).port = s.port ∧
    (discardRequest s).link = s.link ∧
    (discardRequest s).reports = s.reports ∧
    (discardRequest s).now = s.now ∧
    (discardRequest s).raised = s.raised ∧
    (discardRequest s).pending = s.pending := by
  unfold discardRequest; split <;> simp

@[simp] theorem discardRequest_coord :
    (discardRequest s).coord.peers = s.coord.peers ∧
    (discardRequest s).coord.drawn = s.coord.drawn ∧
    (discardRequest s).coord.mode = s.coord.mode ∧
    (discardRequest s).coord.cmax = s.coord.cmax ∧
    (discardRequest s).coord.cmaxSeen = s.coord.cmaxSeen ∧
    (discardRequest s).coord.ap = s.coord.ap ∧
    (discardRequest s).coord.af = s.coord.af := by
  unfold discardRequest; split <;> simp

@[simp] theorem enterCutTip_frame :
    (enterCutTip s).straps = s.straps ∧
    (enterCutTip s).store = s.store ∧
    (enterCutTip s).conds = s.conds ∧
    (enterCutTip s).nest = s.nest ∧
    (enterCutTip s).setup = s.setup ∧
    (enterCutTip s).locks = s.locks ∧
    (enterCutTip s).walking = s.walking ∧
    (enterCutTip s).seq = s.seq ∧
    (enterCutTip s).fetch = s.fetch ∧
    (enterCutTip s).queue = s.queue ∧
    (enterCutTip s).history = s.history ∧
    (enterCutTip s).gap = s.gap ∧
    (enterCutTip s).gen = s.gen ∧
    (enterCutTip s).exe = s.exe ∧
    (enterCutTip s).coord = s.coord ∧
    (enterCutTip s).port = s.port ∧
    (enterCutTip s).link = s.link ∧
    (enterCutTip s).reports = s.reports ∧
    (enterCutTip s).now = s.now ∧
    (enterCutTip s).pending = s.pending := by
  simp [enterCutTip]

@[simp] theorem requestThread_frame (m : Mode) (n : Nat) :
    (requestThread m n s).straps = s.straps ∧
    (requestThread m n s).store = s.store ∧
    (requestThread m n s).conds = s.conds ∧
    (requestThread m n s).nest = s.nest ∧
    (requestThread m n s).setup = s.setup ∧
    (requestThread m n s).locks = s.locks ∧
    (requestThread m n s).walking = s.walking ∧
    (requestThread m n s).seq = s.seq ∧
    (requestThread m n s).fetch = s.fetch ∧
    (requestThread m n s).queue = s.queue ∧
    (requestThread m n s).history = s.history ∧
    (requestThread m n s).gap = s.gap ∧
    (requestThread m n s).gen = s.gen ∧
    (requestThread m n s).exe = s.exe ∧
    (requestThread m n s).port = s.port ∧
    (requestThread m n s).link = s.link ∧
    (requestThread m n s).reports = s.reports ∧
    (requestThread m n s).now = s.now ∧
    (requestThread m n s).pending = s.pending := by
  simp [requestThread]

@[simp] theorem requestThread_coord (m : Mode) (n : Nat) :
    (requestThread m n s).coord.peers = s.coord.peers ∧
    (requestThread m n s).coord.drawn = s.coord.drawn ∧
    (requestThread m n s).coord.mode = s.coord.mode ∧
    (requestThread m n s).coord.cmax = s.coord.cmax ∧
    (requestThread m n s).coord.cmaxSeen = s.coord.cmaxSeen ∧
    (requestThread m n s).coord.ap = s.coord.ap ∧
    (requestThread m n s).coord.af = s.coord.af := by
  simp [requestThread]

@[simp] theorem requestCut_frame (b : Bool) :
    (requestCut b s).straps = s.straps ∧
    (requestCut b s).store = s.store ∧
    (requestCut b s).conds = s.conds ∧
    (requestCut b s).nest = s.nest ∧
    (requestCut b s).setup = s.setup ∧
    (requestCut b s).locks = s.locks ∧
    (requestCut b s).walking = s.walking ∧
    (requestCut b s).seq = s.seq ∧
    (requestCut b s).fetch = s.fetch ∧
    (requestCut b s).queue = s.queue ∧
    (requestCut b s).history = s.history ∧
    (requestCut b s).gap = s.gap ∧
    (requestCut b s).gen = s.gen ∧
    (requestCut b s).exe = s.exe ∧
    (requestCut b s).port = s.port ∧
    (requestCut b s).link = s.link ∧
    (requestCut b s).reports = s.reports ∧
    (requestCut b s).now = s.now ∧
    (requestCut b s).pending = s.pending := by
  unfold requestCut; simp only; split <;> simp

@[simp] theorem requestCut_coord (b : Bool) :
    (requestCut b s).coord.peers = s.coord.peers ∧
    (requestCut b s).coord.drawn = s.coord.drawn ∧
    (requestCut b s).coord.mode = s.coord.mode ∧
    (requestCut b s).coord.cmax = s.coord.cmax ∧
    (requestCut b s).coord.cmaxSeen = s.coord.cmaxSeen ∧
    (requestCut b s).coord.ap = s.coord.ap ∧
    (requestCut b s).coord.af = s.coord.af := by
  unfold requestCut; simp only; split <;> simp

@[simp] theorem withdrawThread_frame :
    (withdrawThread s).straps = s.straps ∧
    (withdrawThread s).store = s.store ∧
    (withdrawThread s).conds = s.conds ∧
    (withdrawThread s).nest = s.nest ∧
    (withdrawThread s).setup = s.setup ∧
    (withdrawThread s).locks = s.locks ∧
    (withdrawThread s).walking = s.walking ∧
    (withdrawThread s).seq = s.seq ∧
    (withdrawThread s).fetch = s.fetch ∧
    (withdrawThread s).queue = s.queue ∧
    (withdrawThread s).history = s.history ∧
    (withdrawThread s).gap = s.gap ∧
    (withdrawThread s).gen = s.gen ∧
    (withdrawThread s).exe = s.exe ∧
    (withdrawThread s).port = s.port ∧
    (withdrawThread s).link = s.link ∧
    (withdrawThread s).reports = s.reports ∧
    (withdrawThread s).now = s.now ∧
    (withdrawThread s).raised = s.raised ∧
    (withdrawThread s).pending = s.pending := by
  unfold withdrawThread; split
  · simp only; split <;> simp
  · simp

@[simp] theorem withdrawThread_coord :
    (withdrawThread s).coord.peers = s.coord.peers ∧
    (withdrawThread s).coord.drawn = s.coord.drawn ∧
    (withdrawThread s).coord.mode = s.coord.mode ∧
    (withdrawThread s).coord.cmax = s.coord.cmax ∧
    (withdrawThread s).coord.cmaxSeen = s.coord.cmaxSeen ∧
    (withdrawThread s).coord.ap = s.coord.ap ∧
    (withdrawThread s).coord.af = s.coord.af := by
  unfold withdrawThread; split
  · simp only; split <;> simp
  · simp

@[simp] theorem holdThread_frame :
    (holdThread s).straps = s.straps ∧
    (holdThread s).store = s.store ∧
    (holdThread s).conds = s.conds ∧
    (holdThread s).nest = s.nest ∧
    (holdThread s).setup = s.setup ∧
    (holdThread s).locks = s.locks ∧
    (holdThread s).walking = s.walking ∧
    (holdThread s).seq = s.seq ∧
    (holdThread s).fetch = s.fetch ∧
    (holdThread s).queue = s.queue ∧
    (holdThread s).history = s.history ∧
    (holdThread s).gap = s.gap ∧
    (holdThread s).gen = s.gen ∧
    (holdThread s).exe = s.exe ∧
    (holdThread s).port = s.port ∧
    (holdThread s).link = s.link ∧
    (holdThread s).reports = s.reports ∧
    (holdThread s).now = s.now ∧
    (holdThread s).raised = s.raised ∧
    (holdThread s).pending = s.pending := by
  unfold holdThread; split
  · split <;> simp
  · simp

@[simp] theorem holdThread_coord :
    (holdThread s).coord.peers = s.coord.peers ∧
    (holdThread s).coord.drawn = s.coord.drawn ∧
    (holdThread s).coord.mode = s.coord.mode ∧
    (holdThread s).coord.cmax = s.coord.cmax ∧
    (holdThread s).coord.cmaxSeen = s.coord.cmaxSeen ∧
    (holdThread s).coord.ap = s.coord.ap ∧
    (holdThread s).coord.af = s.coord.af := by
  unfold holdThread; split
  · split <;> simp
  · simp

@[simp] theorem clearWalk_frame :
    (clearWalk s).straps = s.straps ∧
    (clearWalk s).store = s.store ∧
    (clearWalk s).conds = s.conds ∧
    (clearWalk s).nest = s.nest ∧
    (clearWalk s).setup = s.setup ∧
    (clearWalk s).locks = s.locks ∧
    (clearWalk s).walking = s.walking ∧
    (clearWalk s).seq = s.seq ∧
    (clearWalk s).fetch = s.fetch ∧
    (clearWalk s).queue = s.queue ∧
    (clearWalk s).gap = s.gap ∧
    (clearWalk s).gen = s.gen ∧
    (clearWalk s).thr = s.thr ∧
    (clearWalk s).filters = s.filters ∧
    (clearWalk s).coord = s.coord ∧
    (clearWalk s).port = s.port ∧
    (clearWalk s).link = s.link ∧
    (clearWalk s).reports = s.reports ∧
    (clearWalk s).now = s.now ∧
    (clearWalk s).raised = s.raised ∧
    (clearWalk s).pending = s.pending := by
  and_intros <;> rfl

@[simp] theorem flush_frame :
    (flush s).straps = s.straps ∧
    (flush s).store = s.store ∧
    (flush s).conds = s.conds ∧
    (flush s).nest = s.nest ∧
    (flush s).setup = s.setup ∧
    (flush s).locks = s.locks ∧
    (flush s).walking = s.walking ∧
    (flush s).seq = s.seq ∧
    (flush s).gap = s.gap ∧
    (flush s).gen = s.gen ∧
    (flush s).thr = s.thr ∧
    (flush s).filters = s.filters ∧
    (flush s).coord = s.coord ∧
    (flush s).port = s.port ∧
    (flush s).link = s.link ∧
    (flush s).reports = s.reports ∧
    (flush s).now = s.now ∧
    (flush s).raised = s.raised ∧
    (flush s).pending = s.pending := by
  and_intros <;> rfl

@[simp] theorem startPass_frame (p : PartNo) (a : Pass) (i : PathIndex) (st : Point) (c : CondNo) (t k : Option PathPoint) :
    (startPass p a i st c t k s).straps = s.straps ∧
    (startPass p a i st c t k s).store = s.store ∧
    (startPass p a i st c t k s).conds = s.conds ∧
    (startPass p a i st c t k s).setup = s.setup ∧
    (startPass p a i st c t k s).locks = s.locks ∧
    (startPass p a i st c t k s).walking = s.walking ∧
    (startPass p a i st c t k s).gap = s.gap ∧
    (startPass p a i st c t k s).gen = s.gen ∧
    (startPass p a i st c t k s).thr = s.thr ∧
    (startPass p a i st c t k s).filters = s.filters ∧
    (startPass p a i st c t k s).coord = s.coord ∧
    (startPass p a i st c t k s).port = s.port ∧
    (startPass p a i st c t k s).link = s.link ∧
    (startPass p a i st c t k s).reports = s.reports ∧
    (startPass p a i st c t k s).now = s.now ∧
    (startPass p a i st c t k s).raised = s.raised ∧
    (startPass p a i st c t k s).pending = s.pending := by
  unfold startPass; simp only; split <;> simp

@[simp] theorem startContour_frame (p : PartNo) (a : Pass) (st : Point) (t k : Option PathPoint) :
    (startContour p a st t k s).straps = s.straps ∧
    (startContour p a st t k s).store = s.store ∧
    (startContour p a st t k s).conds = s.conds ∧
    (startContour p a st t k s).setup = s.setup ∧
    (startContour p a st t k s).locks = s.locks ∧
    (startContour p a st t k s).walking = s.walking ∧
    (startContour p a st t k s).gap = s.gap ∧
    (startContour p a st t k s).gen = s.gen ∧
    (startContour p a st t k s).thr = s.thr ∧
    (startContour p a st t k s).filters = s.filters ∧
    (startContour p a st t k s).coord = s.coord ∧
    (startContour p a st t k s).port = s.port ∧
    (startContour p a st t k s).link = s.link ∧
    (startContour p a st t k s).reports = s.reports ∧
    (startContour p a st t k s).now = s.now ∧
    (startContour p a st t k s).raised = s.raised ∧
    (startContour p a st t k s).pending = s.pending := by
  simp [startContour]

@[simp] theorem startSeparation_frame (p : PartNo) (t : Option PathPoint) :
    (startSeparation p t s).straps = s.straps ∧
    (startSeparation p t s).store = s.store ∧
    (startSeparation p t s).conds = s.conds ∧
    (startSeparation p t s).setup = s.setup ∧
    (startSeparation p t s).locks = s.locks ∧
    (startSeparation p t s).walking = s.walking ∧
    (startSeparation p t s).gap = s.gap ∧
    (startSeparation p t s).gen = s.gen ∧
    (startSeparation p t s).thr = s.thr ∧
    (startSeparation p t s).filters = s.filters ∧
    (startSeparation p t s).coord = s.coord ∧
    (startSeparation p t s).port = s.port ∧
    (startSeparation p t s).link = s.link ∧
    (startSeparation p t s).reports = s.reports ∧
    (startSeparation p t s).now = s.now ∧
    (startSeparation p t s).raised = s.raised ∧
    (startSeparation p t s).pending = s.pending := by
  unfold startSeparation; split <;> simp

@[simp] theorem requestMove_frame (t : Point) :
    (requestMove t s).straps = s.straps ∧
    (requestMove t s).store = s.store ∧
    (requestMove t s).conds = s.conds ∧
    (requestMove t s).nest = s.nest ∧
    (requestMove t s).setup = s.setup ∧
    (requestMove t s).locks = s.locks ∧
    (requestMove t s).walking = s.walking ∧
    (requestMove t s).seq = s.seq ∧
    (requestMove t s).fetch = s.fetch ∧
    (requestMove t s).queue = s.queue ∧
    (requestMove t s).history = s.history ∧
    (requestMove t s).gap = s.gap ∧
    (requestMove t s).gen = s.gen ∧
    (requestMove t s).thr = s.thr ∧
    (requestMove t s).filters = s.filters ∧
    (requestMove t s).coord = s.coord ∧
    (requestMove t s).port = s.port ∧
    (requestMove t s).link = s.link ∧
    (requestMove t s).reports = s.reports ∧
    (requestMove t s).now = s.now ∧
    (requestMove t s).raised = s.raised ∧
    (requestMove t s).pending = s.pending := by
  and_intros <;> rfl

@[simp] theorem silencePort_frame :
    (silencePort s).straps = s.straps ∧
    (silencePort s).store = s.store ∧
    (silencePort s).conds = s.conds ∧
    (silencePort s).nest = s.nest ∧
    (silencePort s).setup = s.setup ∧
    (silencePort s).locks = s.locks ∧
    (silencePort s).walking = s.walking ∧
    (silencePort s).seq = s.seq ∧
    (silencePort s).fetch = s.fetch ∧
    (silencePort s).queue = s.queue ∧
    (silencePort s).history = s.history ∧
    (silencePort s).gap = s.gap ∧
    (silencePort s).gen = s.gen ∧
    (silencePort s).exe = s.exe ∧
    (silencePort s).thr = s.thr ∧
    (silencePort s).filters = s.filters ∧
    (silencePort s).link = s.link ∧
    (silencePort s).reports = s.reports ∧
    (silencePort s).now = s.now ∧
    (silencePort s).raised = s.raised ∧
    (silencePort s).pending = s.pending := by
  and_intros <;> rfl

@[simp] theorem silencePort_coord :
    (silencePort s).coord.peers = s.coord.peers ∧
    (silencePort s).coord.drawn = s.coord.drawn ∧
    (silencePort s).coord.mode = s.coord.mode ∧
    (silencePort s).coord.cmax = s.coord.cmax ∧
    (silencePort s).coord.cmaxSeen = s.coord.cmaxSeen ∧
    (silencePort s).coord.ap = s.coord.ap ∧
    (silencePort s).coord.af = s.coord.af := by
  simp [silencePort]

end Sys2Proof.Machine
end

