-- ==== Sys2Proof/Laws/Sequencer.lean ====
section
/-! SUPPORT. What each operation of Machine/Sequencer.lean leaves unchanged: one lemma per operation, read field by
field by `simp`. -/

namespace Sys2Proof.Machine

variable (s : State)

@[simp] theorem setActivity_frame (a : Activity) :
    (setActivity a s).straps = s.straps ∧
    (setActivity a s).store = s.store ∧
    (setActivity a s).conds = s.conds ∧
    (setActivity a s).nest = s.nest ∧
    (setActivity a s).setup = s.setup ∧
    (setActivity a s).locks = s.locks ∧
    (setActivity a s).walking = s.walking ∧
    (setActivity a s).fetch = s.fetch ∧
    (setActivity a s).queue = s.queue ∧
    (setActivity a s).history = s.history ∧
    (setActivity a s).gap = s.gap ∧
    (setActivity a s).gen = s.gen ∧
    (setActivity a s).exe = s.exe ∧
    (setActivity a s).thr = s.thr ∧
    (setActivity a s).filters = s.filters ∧
    (setActivity a s).coord = s.coord ∧
    (setActivity a s).port = s.port ∧
    (setActivity a s).link = s.link ∧
    (setActivity a s).reports = s.reports ∧
    (setActivity a s).now = s.now ∧
    (setActivity a s).raised = s.raised ∧
    (setActivity a s).pending = s.pending := by
  and_intros <;> rfl

@[simp] theorem setOwed_frame (o : OwedStep) :
    (setOwed o s).straps = s.straps ∧
    (setOwed o s).store = s.store ∧
    (setOwed o s).conds = s.conds ∧
    (setOwed o s).nest = s.nest ∧
    (setOwed o s).setup = s.setup ∧
    (setOwed o s).locks = s.locks ∧
    (setOwed o s).walking = s.walking ∧
    (setOwed o s).fetch = s.fetch ∧
    (setOwed o s).queue = s.queue ∧
    (setOwed o s).history = s.history ∧
    (setOwed o s).gap = s.gap ∧
    (setOwed o s).gen = s.gen ∧
    (setOwed o s).exe = s.exe ∧
    (setOwed o s).thr = s.thr ∧
    (setOwed o s).filters = s.filters ∧
    (setOwed o s).coord = s.coord ∧
    (setOwed o s).port = s.port ∧
    (setOwed o s).link = s.link ∧
    (setOwed o s).reports = s.reports ∧
    (setOwed o s).now = s.now ∧
    (setOwed o s).raised = s.raised ∧
    (setOwed o s).pending = s.pending := by
  and_intros <;> rfl

@[simp] theorem clearRecovery_frame :
    (clearRecovery s).straps = s.straps ∧
    (clearRecovery s).store = s.store ∧
    (clearRecovery s).conds = s.conds ∧
    (clearRecovery s).nest = s.nest ∧
    (clearRecovery s).setup = s.setup ∧
    (clearRecovery s).locks = s.locks ∧
    (clearRecovery s).walking = s.walking ∧
    (clearRecovery s).fetch = s.fetch ∧
    (clearRecovery s).queue = s.queue ∧
    (clearRecovery s).history = s.history ∧
    (clearRecovery s).gap = s.gap ∧
    (clearRecovery s).gen = s.gen ∧
    (clearRecovery s).exe = s.exe ∧
    (clearRecovery s).thr = s.thr ∧
    (clearRecovery s).filters = s.filters ∧
    (clearRecovery s).coord = s.coord ∧
    (clearRecovery s).port = s.port ∧
    (clearRecovery s).link = s.link ∧
    (clearRecovery s).reports = s.reports ∧
    (clearRecovery s).now = s.now ∧
    (clearRecovery s).raised = s.raised ∧
    (clearRecovery s).pending = s.pending := by
  and_intros <;> rfl

@[simp] theorem dropCurrent_frame :
    (dropCurrent s).straps = s.straps ∧
    (dropCurrent s).store = s.store ∧
    (dropCurrent s).conds = s.conds ∧
    (dropCurrent s).nest = s.nest ∧
    (dropCurrent s).setup = s.setup ∧
    (dropCurrent s).locks = s.locks ∧
    (dropCurrent s).walking = s.walking ∧
    (dropCurrent s).fetch = s.fetch ∧
    (dropCurrent s).queue = s.queue ∧
    (dropCurrent s).history = s.history ∧
    (dropCurrent s).gap = s.gap ∧
    (dropCurrent s).gen = s.gen ∧
    (dropCurrent s).exe = s.exe ∧
    (dropCurrent s).thr = s.thr ∧
    (dropCurrent s).filters = s.filters ∧
    (dropCurrent s).coord = s.coord ∧
    (dropCurrent s).port = s.port ∧
    (dropCurrent s).link = s.link ∧
    (dropCurrent s).reports = s.reports ∧
    (dropCurrent s).now = s.now ∧
    (dropCurrent s).raised = s.raised ∧
    (dropCurrent s).pending = s.pending := by
  and_intros <;> rfl

@[simp] theorem setRoute_frame (r : Route) (t : RouteStep) :
    (setRoute r t s).straps = s.straps ∧
    (setRoute r t s).store = s.store ∧
    (setRoute r t s).conds = s.conds ∧
    (setRoute r t s).nest = s.nest ∧
    (setRoute r t s).setup = s.setup ∧
    (setRoute r t s).locks = s.locks ∧
    (setRoute r t s).walking = s.walking ∧
    (setRoute r t s).fetch = s.fetch ∧
    (setRoute r t s).queue = s.queue ∧
    (setRoute r t s).history = s.history ∧
    (setRoute r t s).gap = s.gap ∧
    (setRoute r t s).gen = s.gen ∧
    (setRoute r t s).exe = s.exe ∧
    (setRoute r t s).thr = s.thr ∧
    (setRoute r t s).filters = s.filters ∧
    (setRoute r t s).coord = s.coord ∧
    (setRoute r t s).port = s.port ∧
    (setRoute r t s).link = s.link ∧
    (setRoute r t s).reports = s.reports ∧
    (setRoute r t s).now = s.now ∧
    (setRoute r t s).raised = s.raised ∧
    (setRoute r t s).pending = s.pending := by
  and_intros <;> rfl

@[simp] theorem setStep_frame (t : RouteStep) :
    (setStep t s).straps = s.straps ∧
    (setStep t s).store = s.store ∧
    (setStep t s).conds = s.conds ∧
    (setStep t s).nest = s.nest ∧
    (setStep t s).setup = s.setup ∧
    (setStep t s).locks = s.locks ∧
    (setStep t s).walking = s.walking ∧
    (setStep t s).fetch = s.fetch ∧
    (setStep t s).queue = s.queue ∧
    (setStep t s).history = s.history ∧
    (setStep t s).gap = s.gap ∧
    (setStep t s).gen = s.gen ∧
    (setStep t s).exe = s.exe ∧
    (setStep t s).thr = s.thr ∧
    (setStep t s).filters = s.filters ∧
    (setStep t s).coord = s.coord ∧
    (setStep t s).port = s.port ∧
    (setStep t s).link = s.link ∧
    (setStep t s).reports = s.reports ∧
    (setStep t s).now = s.now ∧
    (setStep t s).raised = s.raised ∧
    (setStep t s).pending = s.pending := by
  and_intros <;> rfl

@[simp] theorem closeWindow_frame :
    (closeWindow s).straps = s.straps ∧
    (closeWindow s).store = s.store ∧
    (closeWindow s).conds = s.conds ∧
    (closeWindow s).nest = s.nest ∧
    (closeWindow s).setup = s.setup ∧
    (closeWindow s).locks = s.locks ∧
    (closeWindow s).walking = s.walking ∧
    (closeWindow s).fetch = s.fetch ∧
    (closeWindow s).queue = s.queue ∧
    (closeWindow s).history = s.history ∧
    (closeWindow s).gap = s.gap ∧
    (closeWindow s).gen = s.gen ∧
    (closeWindow s).exe = s.exe ∧
    (closeWindow s).thr = s.thr ∧
    (closeWindow s).filters = s.filters ∧
    (closeWindow s).coord = s.coord ∧
    (closeWindow s).port = s.port ∧
    (closeWindow s).link = s.link ∧
    (closeWindow s).reports = s.reports ∧
    (closeWindow s).now = s.now ∧
    (closeWindow s).raised = s.raised ∧
    (closeWindow s).pending = s.pending := by
  and_intros <;> rfl

@[simp] theorem clearSkips_frame :
    (clearSkips s).straps = s.straps ∧
    (clearSkips s).store = s.store ∧
    (clearSkips s).conds = s.conds ∧
    (clearSkips s).nest = s.nest ∧
    (clearSkips s).setup = s.setup ∧
    (clearSkips s).locks = s.locks ∧
    (clearSkips s).walking = s.walking ∧
    (clearSkips s).fetch = s.fetch ∧
    (clearSkips s).queue = s.queue ∧
    (clearSkips s).history = s.history ∧
    (clearSkips s).gap = s.gap ∧
    (clearSkips s).gen = s.gen ∧
    (clearSkips s).exe = s.exe ∧
    (clearSkips s).thr = s.thr ∧
    (clearSkips s).filters = s.filters ∧
    (clearSkips s).coord = s.coord ∧
    (clearSkips s).port = s.port ∧
    (clearSkips s).link = s.link ∧
    (clearSkips s).reports = s.reports ∧
    (clearSkips s).now = s.now ∧
    (clearSkips s).raised = s.raised ∧
    (clearSkips s).pending = s.pending := by
  and_intros <;> rfl

@[simp] theorem finishPart_frame (p : PartNo) (st : PartState) (c : Option Cause) :
    (finishPart p st c s).straps = s.straps ∧
    (finishPart p st c s).store = s.store ∧
    (finishPart p st c s).conds = s.conds ∧
    (finishPart p st c s).setup = s.setup ∧
    (finishPart p st c s).locks = s.locks ∧
    (finishPart p st c s).walking = s.walking ∧
    (finishPart p st c s).fetch = s.fetch ∧
    (finishPart p st c s).queue = s.queue ∧
    (finishPart p st c s).history = s.history ∧
    (finishPart p st c s).gap = s.gap ∧
    (finishPart p st c s).gen = s.gen ∧
    (finishPart p st c s).exe = s.exe ∧
    (finishPart p st c s).thr = s.thr ∧
    (finishPart p st c s).filters = s.filters ∧
    (finishPart p st c s).coord = s.coord ∧
    (finishPart p st c s).port = s.port ∧
    (finishPart p st c s).link = s.link ∧
    (finishPart p st c s).now = s.now ∧
    (finishPart p st c s).raised = s.raised ∧
    (finishPart p st c s).pending = s.pending := by
  unfold finishPart; simp only; split <;> simp

@[simp] theorem beginCut_frame (b : Bool) :
    (beginCut b s).straps = s.straps ∧
    (beginCut b s).store = s.store ∧
    (beginCut b s).conds = s.conds ∧
    (beginCut b s).nest = s.nest ∧
    (beginCut b s).setup = s.setup ∧
    (beginCut b s).locks = s.locks ∧
    (beginCut b s).walking = s.walking ∧
    (beginCut b s).fetch = s.fetch ∧
    (beginCut b s).queue = s.queue ∧
    (beginCut b s).history = s.history ∧
    (beginCut b s).gap = s.gap ∧
    (beginCut b s).gen = s.gen ∧
    (beginCut b s).exe = s.exe ∧
    (beginCut b s).port = s.port ∧
    (beginCut b s).link = s.link ∧
    (beginCut b s).reports = s.reports ∧
    (beginCut b s).now = s.now ∧
    (beginCut b s).pending = s.pending := by
  unfold beginCut; split <;> simp

@[simp] theorem beginCut_coord (b : Bool) :
    (beginCut b s).coord.peers = s.coord.peers ∧
    (beginCut b s).coord.drawn = s.coord.drawn ∧
    (beginCut b s).coord.mode = s.coord.mode ∧
    (beginCut b s).coord.cmax = s.coord.cmax ∧
    (beginCut b s).coord.cmaxSeen = s.coord.cmaxSeen ∧
    (beginCut b s).coord.ap = s.coord.ap ∧
    (beginCut b s).coord.af = s.coord.af := by
  unfold beginCut; split <;> simp

@[simp] theorem followLimits_frame :
    (followLimits s).straps = s.straps ∧
    (followLimits s).store = s.store ∧
    (followLimits s).conds = s.conds ∧
    (followLimits s).nest = s.nest ∧
    (followLimits s).setup = s.setup ∧
    (followLimits s).locks = s.locks ∧
    (followLimits s).walking = s.walking ∧
    (followLimits s).seq = s.seq ∧
    (followLimits s).fetch = s.fetch ∧
    (followLimits s).queue = s.queue ∧
    (followLimits s).history = s.history ∧
    (followLimits s).gap = s.gap ∧
    (followLimits s).gen = s.gen ∧
    (followLimits s).exe = s.exe ∧
    (followLimits s).thr = s.thr ∧
    (followLimits s).coord = s.coord ∧
    (followLimits s).port = s.port ∧
    (followLimits s).link = s.link ∧
    (followLimits s).reports = s.reports ∧
    (followLimits s).now = s.now ∧
    (followLimits s).raised = s.raised ∧
    (followLimits s).pending = s.pending := by
  and_intros <;> rfl

@[simp] theorem enterIdle_frame :
    (enterIdle s).straps = s.straps ∧
    (enterIdle s).store = s.store ∧
    (enterIdle s).conds = s.conds ∧
    (enterIdle s).nest = s.nest ∧
    (enterIdle s).setup = s.setup ∧
    (enterIdle s).walking = s.walking ∧
    (enterIdle s).fetch = s.fetch ∧
    (enterIdle s).queue = s.queue ∧
    (enterIdle s).history = s.history ∧
    (enterIdle s).gap = s.gap ∧
    (enterIdle s).gen = s.gen ∧
    (enterIdle s).exe = s.exe ∧
    (enterIdle s).thr = s.thr ∧
    (enterIdle s).coord = s.coord ∧
    (enterIdle s).port = s.port ∧
    (enterIdle s).link = s.link ∧
    (enterIdle s).reports = s.reports ∧
    (enterIdle s).now = s.now ∧
    (enterIdle s).raised = s.raised ∧
    (enterIdle s).pending = s.pending := by
  simp [enterIdle]

@[simp] theorem jobEnd_frame :
    (jobEnd s).straps = s.straps ∧
    (jobEnd s).store = s.store ∧
    (jobEnd s).conds = s.conds ∧
    (jobEnd s).nest = s.nest ∧
    (jobEnd s).setup = s.setup ∧
    (jobEnd s).walking = s.walking ∧
    (jobEnd s).fetch = s.fetch ∧
    (jobEnd s).queue = s.queue ∧
    (jobEnd s).history = s.history ∧
    (jobEnd s).gap = s.gap ∧
    (jobEnd s).gen = s.gen ∧
    (jobEnd s).exe = s.exe ∧
    (jobEnd s).thr = s.thr ∧
    (jobEnd s).coord = s.coord ∧
    (jobEnd s).port = s.port ∧
    (jobEnd s).link = s.link ∧
    (jobEnd s).now = s.now ∧
    (jobEnd s).raised = s.raised ∧
    (jobEnd s).pending = s.pending := by
  simp [jobEnd]

@[simp] theorem takeUp_frame (p : PartNo) (f : PartRecord → PartRecord) :
    (takeUp p f s).straps = s.straps ∧
    (takeUp p f s).store = s.store ∧
    (takeUp p f s).conds = s.conds ∧
    (takeUp p f s).setup = s.setup ∧
    (takeUp p f s).locks = s.locks ∧
    (takeUp p f s).walking = s.walking ∧
    (takeUp p f s).seq = s.seq ∧
    (takeUp p f s).fetch = s.fetch ∧
    (takeUp p f s).queue = s.queue ∧
    (takeUp p f s).history = s.history ∧
    (takeUp p f s).gap = s.gap ∧
    (takeUp p f s).gen = s.gen ∧
    (takeUp p f s).exe = s.exe ∧
    (takeUp p f s).thr = s.thr ∧
    (takeUp p f s).filters = s.filters ∧
    (takeUp p f s).coord = s.coord ∧
    (takeUp p f s).port = s.port ∧
    (takeUp p f s).link = s.link ∧
    (takeUp p f s).now = s.now ∧
    (takeUp p f s).raised = s.raised ∧
    (takeUp p f s).pending = s.pending := by
  simp [takeUp]

@[simp] theorem beginResumption_frame (r : Route) :
    (beginResumption r s).straps = s.straps ∧
    (beginResumption r s).store = s.store ∧
    (beginResumption r s).conds = s.conds ∧
    (beginResumption r s).nest = s.nest ∧
    (beginResumption r s).setup = s.setup ∧
    (beginResumption r s).locks = s.locks ∧
    (beginResumption r s).walking = s.walking ∧
    (beginResumption r s).fetch = s.fetch ∧
    (beginResumption r s).queue = s.queue ∧
    (beginResumption r s).history = s.history ∧
    (beginResumption r s).gap = s.gap ∧
    (beginResumption r s).gen = s.gen ∧
    (beginResumption r s).exe = s.exe ∧
    (beginResumption r s).port = s.port ∧
    (beginResumption r s).link = s.link ∧
    (beginResumption r s).reports = s.reports ∧
    (beginResumption r s).now = s.now ∧
    (beginResumption r s).pending = s.pending := by
  simp [beginResumption]

@[simp] theorem beginResumption_coord (r : Route) :
    (beginResumption r s).coord.peers = s.coord.peers ∧
    (beginResumption r s).coord.drawn = s.coord.drawn ∧
    (beginResumption r s).coord.mode = s.coord.mode ∧
    (beginResumption r s).coord.cmax = s.coord.cmax ∧
    (beginResumption r s).coord.cmaxSeen = s.coord.cmaxSeen ∧
    (beginResumption r s).coord.ap = s.coord.ap ∧
    (beginResumption r s).coord.af = s.coord.af := by
  simp [beginResumption]

@[simp] theorem beginPart_frame (p : PartNo) :
    (beginPart p s).straps = s.straps ∧
    (beginPart p s).store = s.store ∧
    (beginPart p s).conds = s.conds ∧
    (beginPart p s).setup = s.setup ∧
    (beginPart p s).locks = s.locks ∧
    (beginPart p s).walking = s.walking ∧
    (beginPart p s).fetch = s.fetch ∧
    (beginPart p s).queue = s.queue ∧
    (beginPart p s).history = s.history ∧
    (beginPart p s).gap = s.gap ∧
    (beginPart p s).gen = s.gen ∧
    (beginPart p s).port = s.port ∧
    (beginPart p s).link = s.link ∧
    (beginPart p s).now = s.now ∧
    (beginPart p s).pending = s.pending := by
  unfold beginPart; simp only; split <;> (try split) <;> simp

@[simp] theorem beginPart_coord (p : PartNo) :
    (beginPart p s).coord.peers = s.coord.peers ∧
    (beginPart p s).coord.drawn = s.coord.drawn ∧
    (beginPart p s).coord.mode = s.coord.mode ∧
    (beginPart p s).coord.cmax = s.coord.cmax ∧
    (beginPart p s).coord.cmaxSeen = s.coord.cmaxSeen ∧
    (beginPart p s).coord.ap = s.coord.ap ∧
    (beginPart p s).coord.af = s.coord.af := by
  unfold beginPart; simp only; split <;> (try split) <;> simp

@[simp] theorem selectionPoint_frame :
    (selectionPoint s).straps = s.straps ∧
    (selectionPoint s).store = s.store ∧
    (selectionPoint s).conds = s.conds ∧
    (selectionPoint s).setup = s.setup ∧
    (selectionPoint s).walking = s.walking ∧
    (selectionPoint s).fetch = s.fetch ∧
    (selectionPoint s).queue = s.queue ∧
    (selectionPoint s).history = s.history ∧
    (selectionPoint s).gap = s.gap ∧
    (selectionPoint s).gen = s.gen ∧
    (selectionPoint s).port = s.port ∧
    (selectionPoint s).link = s.link ∧
    (selectionPoint s).now = s.now ∧
    (selectionPoint s).pending = s.pending := by
  unfold selectionPoint; split
  · simp
  · split <;> simp

@[simp] theorem selectionPoint_coord :
    (selectionPoint s).coord.peers = s.coord.peers ∧
    (selectionPoint s).coord.drawn = s.coord.drawn ∧
    (selectionPoint s).coord.mode = s.coord.mode ∧
    (selectionPoint s).coord.cmax = s.coord.cmax ∧
    (selectionPoint s).coord.cmaxSeen = s.coord.cmaxSeen ∧
    (selectionPoint s).coord.ap = s.coord.ap ∧
    (selectionPoint s).coord.af = s.coord.af := by
  unfold selectionPoint; split
  · simp
  · split <;> simp

@[simp] theorem endWalkHalted_frame :
    (endWalkHalted s).straps = s.straps ∧
    (endWalkHalted s).store = s.store ∧
    (endWalkHalted s).conds = s.conds ∧
    (endWalkHalted s).nest = s.nest ∧
    (endWalkHalted s).setup = s.setup ∧
    (endWalkHalted s).locks = s.locks ∧
    (endWalkHalted s).seq = s.seq ∧
    (endWalkHalted s).fetch = s.fetch ∧
    (endWalkHalted s).queue = s.queue ∧
    (endWalkHalted s).history = s.history ∧
    (endWalkHalted s).gap = s.gap ∧
    (endWalkHalted s).gen = s.gen ∧
    (endWalkHalted s).exe = s.exe ∧
    (endWalkHalted s).thr = s.thr ∧
    (endWalkHalted s).filters = s.filters ∧
    (endWalkHalted s).coord = s.coord ∧
    (endWalkHalted s).port = s.port ∧
    (endWalkHalted s).reports = s.reports ∧
    (endWalkHalted s).now = s.now ∧
    (endWalkHalted s).raised = s.raised ∧
    (endWalkHalted s).pending = s.pending := by
  unfold endWalkHalted; split <;> simp

@[simp] theorem haltStation_frame (c : HaltCode) :
    (haltStation c s).straps = s.straps ∧
    (haltStation c s).store = s.store ∧
    (haltStation c s).conds = s.conds ∧
    (haltStation c s).setup = s.setup ∧
    (haltStation c s).locks = s.locks ∧
    (haltStation c s).gap = s.gap ∧
    (haltStation c s).gen = s.gen ∧
    (haltStation c s).now = s.now ∧
    (haltStation c s).raised = s.raised ∧
    (haltStation c s).pending = s.pending := by
  unfold haltStation; simp only; split <;> simp

@[simp] theorem haltStation_coord (c : HaltCode) :
    (haltStation c s).coord.peers = s.coord.peers ∧
    (haltStation c s).coord.drawn = s.coord.drawn ∧
    (haltStation c s).coord.mode = s.coord.mode ∧
    (haltStation c s).coord.cmax = s.coord.cmax ∧
    (haltStation c s).coord.cmaxSeen = s.coord.cmaxSeen ∧
    (haltStation c s).coord.ap = s.coord.ap ∧
    (haltStation c s).coord.af = s.coord.af := by
  unfold haltStation; simp only; split <;> simp

@[simp] theorem haltStation_port {c : HaltCode} (h : c ≠ .duplicateStation) :
    (haltStation c s).port = s.port := by
  unfold haltStation; simp only; rw [if_neg h]; simp

@[simp] theorem skipWorked_frame (p : PartNo) (c : Cause) :
    (skipWorked p c s).straps = s.straps ∧
    (skipWorked p c s).store = s.store ∧
    (skipWorked p c s).conds = s.conds ∧
    (skipWorked p c s).setup = s.setup ∧
    (skipWorked p c s).locks = s.locks ∧
    (skipWorked p c s).walking = s.walking ∧
    (skipWorked p c s).gap = s.gap ∧
    (skipWorked p c s).gen = s.gen ∧
    (skipWorked p c s).port = s.port ∧
    (skipWorked p c s).link = s.link ∧
    (skipWorked p c s).now = s.now ∧
    (skipWorked p c s).pending = s.pending := by
  simp [skipWorked]

@[simp] theorem skipWorked_coord (p : PartNo) (c : Cause) :
    (skipWorked p c s).coord.peers = s.coord.peers ∧
    (skipWorked p c s).coord.drawn = s.coord.drawn ∧
    (skipWorked p c s).coord.mode = s.coord.mode ∧
    (skipWorked p c s).coord.cmax = s.coord.cmax ∧
    (skipWorked p c s).coord.cmaxSeen = s.coord.cmaxSeen ∧
    (skipWorked p c s).coord.ap = s.coord.ap ∧
    (skipWorked p c s).coord.af = s.coord.af := by
  simp [skipWorked]

@[simp] theorem actSkip_frame (b : Bool) :
    (actSkip b s).straps = s.straps ∧
    (actSkip b s).store = s.store ∧
    (actSkip b s).conds = s.conds ∧
    (actSkip b s).setup = s.setup ∧
    (actSkip b s).walking = s.walking ∧
    (actSkip b s).gap = s.gap ∧
    (actSkip b s).gen = s.gen ∧
    (actSkip b s).port = s.port ∧
    (actSkip b s).link = s.link ∧
    (actSkip b s).now = s.now ∧
    (actSkip b s).pending = s.pending := by
  unfold actSkip; split
  · simp
  · simp only; split <;> simp

@[simp] theorem actSkip_coord (b : Bool) :
    (actSkip b s).coord.peers = s.coord.peers ∧
    (actSkip b s).coord.drawn = s.coord.drawn ∧
    (actSkip b s).coord.mode = s.coord.mode ∧
    (actSkip b s).coord.cmax = s.coord.cmax ∧
    (actSkip b s).coord.cmaxSeen = s.coord.cmaxSeen ∧
    (actSkip b s).coord.ap = s.coord.ap ∧
    (actSkip b s).coord.af = s.coord.af := by
  unfold actSkip; split
  · simp
  · simp only; split <;> simp

@[simp] theorem skipThreadLimit_frame (p : PartNo) :
    (skipThreadLimit p s).straps = s.straps ∧
    (skipThreadLimit p s).store = s.store ∧
    (skipThreadLimit p s).conds = s.conds ∧
    (skipThreadLimit p s).setup = s.setup ∧
    (skipThreadLimit p s).locks = s.locks ∧
    (skipThreadLimit p s).gap = s.gap ∧
    (skipThreadLimit p s).gen = s.gen ∧
    (skipThreadLimit p s).port = s.port ∧
    (skipThreadLimit p s).now = s.now ∧
    (skipThreadLimit p s).pending = s.pending := by
  unfold skipThreadLimit; simp only; split <;> simp

@[simp] theorem skipThreadLimit_coord (p : PartNo) :
    (skipThreadLimit p s).coord.peers = s.coord.peers ∧
    (skipThreadLimit p s).coord.drawn = s.coord.drawn ∧
    (skipThreadLimit p s).coord.mode = s.coord.mode ∧
    (skipThreadLimit p s).coord.cmax = s.coord.cmax ∧
    (skipThreadLimit p s).coord.cmaxSeen = s.coord.cmaxSeen ∧
    (skipThreadLimit p s).coord.ap = s.coord.ap ∧
    (skipThreadLimit p s).coord.af = s.coord.af := by
  unfold skipThreadLimit; simp only; split <;> simp

@[simp] theorem beginRecovery_frame (c : BreakCondition) :
    (beginRecovery c s).straps = s.straps ∧
    (beginRecovery c s).store = s.store ∧
    (beginRecovery c s).conds = s.conds ∧
    (beginRecovery c s).nest = s.nest ∧
    (beginRecovery c s).setup = s.setup ∧
    (beginRecovery c s).locks = s.locks ∧
    (beginRecovery c s).walking = s.walking ∧
    (beginRecovery c s).gap = s.gap ∧
    (beginRecovery c s).gen = s.gen ∧
    (beginRecovery c s).port = s.port ∧
    (beginRecovery c s).link = s.link ∧
    (beginRecovery c s).reports = s.reports ∧
    (beginRecovery c s).now = s.now ∧
    (beginRecovery c s).pending = s.pending := by
  unfold beginRecovery; split
  · simp
  · simp only; split <;> simp

@[simp] theorem beginRecovery_coord (c : BreakCondition) :
    (beginRecovery c s).coord.peers = s.coord.peers ∧
    (beginRecovery c s).coord.drawn = s.coord.drawn ∧
    (beginRecovery c s).coord.mode = s.coord.mode ∧
    (beginRecovery c s).coord.cmax = s.coord.cmax ∧
    (beginRecovery c s).coord.cmaxSeen = s.coord.cmaxSeen ∧
    (beginRecovery c s).coord.ap = s.coord.ap ∧
    (beginRecovery c s).coord.af = s.coord.af := by
  unfold beginRecovery; split
  · simp
  · simp only; split <;> simp

@[simp] theorem countBreak_frame (p : PartNo) :
    (countBreak p s).straps = s.straps ∧
    (countBreak p s).store = s.store ∧
    (countBreak p s).conds = s.conds ∧
    (countBreak p s).setup = s.setup ∧
    (countBreak p s).locks = s.locks ∧
    (countBreak p s).walking = s.walking ∧
    (countBreak p s).fetch = s.fetch ∧
    (countBreak p s).queue = s.queue ∧
    (countBreak p s).history = s.history ∧
    (countBreak p s).gap = s.gap ∧
    (countBreak p s).gen = s.gen ∧
    (countBreak p s).exe = s.exe ∧
    (countBreak p s).thr = s.thr ∧
    (countBreak p s).filters = s.filters ∧
    (countBreak p s).coord = s.coord ∧
    (countBreak p s).port = s.port ∧
    (countBreak p s).link = s.link ∧
    (countBreak p s).reports = s.reports ∧
    (countBreak p s).now = s.now ∧
    (countBreak p s).raised = s.raised ∧
    (countBreak p s).pending = s.pending := by
  unfold countBreak; simp only; (repeat' split) <;> simp

@[simp] theorem breakTaken_frame (c : BreakCondition) :
    (breakTaken c s).straps = s.straps ∧
    (breakTaken c s).store = s.store ∧
    (breakTaken c s).conds = s.conds ∧
    (breakTaken c s).setup = s.setup ∧
    (breakTaken c s).walking = s.walking ∧
    (breakTaken c s).gap = s.gap ∧
    (breakTaken c s).gen = s.gen ∧
    (breakTaken c s).port = s.port ∧
    (breakTaken c s).link = s.link ∧
    (breakTaken c s).now = s.now ∧
    (breakTaken c s).pending = s.pending := by
  unfold breakTaken; (repeat' split) <;> (try simp only) <;> (repeat' split) <;> simp

@[simp] theorem breakTaken_coord (c : BreakCondition) :
    (breakTaken c s).coord.peers = s.coord.peers ∧
    (breakTaken c s).coord.drawn = s.coord.drawn ∧
    (breakTaken c s).coord.mode = s.coord.mode ∧
    (breakTaken c s).coord.cmax = s.coord.cmax ∧
    (breakTaken c s).coord.cmaxSeen = s.coord.cmaxSeen ∧
    (breakTaken c s).coord.ap = s.coord.ap ∧
    (breakTaken c s).coord.af = s.coord.af := by
  unfold breakTaken; (repeat' split) <;> (try simp only) <;> (repeat' split) <;> simp

@[simp] theorem routeAfterCut_frame :
    (routeAfterCut s).straps = s.straps ∧
    (routeAfterCut s).store = s.store ∧
    (routeAfterCut s).conds = s.conds ∧
    (routeAfterCut s).nest = s.nest ∧
    (routeAfterCut s).setup = s.setup ∧
    (routeAfterCut s).locks = s.locks ∧
    (routeAfterCut s).walking = s.walking ∧
    (routeAfterCut s).fetch = s.fetch ∧
    (routeAfterCut s).queue = s.queue ∧
    (routeAfterCut s).history = s.history ∧
    (routeAfterCut s).gap = s.gap ∧
    (routeAfterCut s).gen = s.gen ∧
    (routeAfterCut s).port = s.port ∧
    (routeAfterCut s).link = s.link ∧
    (routeAfterCut s).reports = s.reports ∧
    (routeAfterCut s).now = s.now ∧
    (routeAfterCut s).pending = s.pending := by
  unfold routeAfterCut; split <;> simp

@[simp] theorem routeAfterCut_coord :
    (routeAfterCut s).coord.peers = s.coord.peers ∧
    (routeAfterCut s).coord.drawn = s.coord.drawn ∧
    (routeAfterCut s).coord.mode = s.coord.mode ∧
    (routeAfterCut s).coord.cmax = s.coord.cmax ∧
    (routeAfterCut s).coord.cmaxSeen = s.coord.cmaxSeen ∧
    (routeAfterCut s).coord.ap = s.coord.ap ∧
    (routeAfterCut s).coord.af = s.coord.af := by
  unfold routeAfterCut; split <;> simp

@[simp] theorem cutCompleted_frame :
    (cutCompleted s).straps = s.straps ∧
    (cutCompleted s).store = s.store ∧
    (cutCompleted s).conds = s.conds ∧
    (cutCompleted s).setup = s.setup ∧
    (cutCompleted s).walking = s.walking ∧
    (cutCompleted s).gap = s.gap ∧
    (cutCompleted s).gen = s.gen ∧
    (cutCompleted s).port = s.port ∧
    (cutCompleted s).link = s.link ∧
    (cutCompleted s).now = s.now ∧
    (cutCompleted s).pending = s.pending := by
  unfold cutCompleted; (repeat' split) <;> simp

@[simp] theorem cutCompleted_coord :
    (cutCompleted s).coord.peers = s.coord.peers ∧
    (cutCompleted s).coord.drawn = s.coord.drawn ∧
    (cutCompleted s).coord.mode = s.coord.mode ∧
    (cutCompleted s).coord.cmax = s.coord.cmax ∧
    (cutCompleted s).coord.cmaxSeen = s.coord.cmaxSeen ∧
    (cutCompleted s).coord.ap = s.coord.ap ∧
    (cutCompleted s).coord.af = s.coord.af := by
  unfold cutCompleted; (repeat' split) <;> simp

@[simp] theorem moveArrived_frame :
    (moveArrived s).straps = s.straps ∧
    (moveArrived s).store = s.store ∧
    (moveArrived s).conds = s.conds ∧
    (moveArrived s).setup = s.setup ∧
    (moveArrived s).walking = s.walking ∧
    (moveArrived s).gap = s.gap ∧
    (moveArrived s).gen = s.gen ∧
    (moveArrived s).port = s.port ∧
    (moveArrived s).link = s.link ∧
    (moveArrived s).now = s.now ∧
    (moveArrived s).pending = s.pending := by
  simp only [moveArrived, atBoundary]; split
  · simp
  · split <;> simp

@[simp] theorem moveArrived_coord :
    (moveArrived s).coord.peers = s.coord.peers ∧
    (moveArrived s).coord.drawn = s.coord.drawn ∧
    (moveArrived s).coord.mode = s.coord.mode ∧
    (moveArrived s).coord.cmax = s.coord.cmax ∧
    (moveArrived s).coord.cmaxSeen = s.coord.cmaxSeen ∧
    (moveArrived s).coord.ap = s.coord.ap ∧
    (moveArrived s).coord.af = s.coord.af := by
  simp only [moveArrived, atBoundary]; split
  · simp
  · split <;> simp

@[simp] theorem threadCompleted_frame :
    (threadCompleted s).straps = s.straps ∧
    (threadCompleted s).store = s.store ∧
    (threadCompleted s).conds = s.conds ∧
    (threadCompleted s).setup = s.setup ∧
    (threadCompleted s).walking = s.walking ∧
    (threadCompleted s).gap = s.gap ∧
    (threadCompleted s).gen = s.gen ∧
    (threadCompleted s).port = s.port ∧
    (threadCompleted s).link = s.link ∧
    (threadCompleted s).now = s.now ∧
    (threadCompleted s).pending = s.pending := by
  simp only [threadCompleted, atBoundary]; (repeat' split) <;> simp

@[simp] theorem threadCompleted_coord :
    (threadCompleted s).coord.peers = s.coord.peers ∧
    (threadCompleted s).coord.drawn = s.coord.drawn ∧
    (threadCompleted s).coord.mode = s.coord.mode ∧
    (threadCompleted s).coord.cmax = s.coord.cmax ∧
    (threadCompleted s).coord.cmaxSeen = s.coord.cmaxSeen ∧
    (threadCompleted s).coord.ap = s.coord.ap ∧
    (threadCompleted s).coord.af = s.coord.af := by
  simp only [threadCompleted, atBoundary]; (repeat' split) <;> simp

@[simp] theorem threadLimitReached_frame :
    (threadLimitReached s).straps = s.straps ∧
    (threadLimitReached s).store = s.store ∧
    (threadLimitReached s).conds = s.conds ∧
    (threadLimitReached s).setup = s.setup ∧
    (threadLimitReached s).locks = s.locks ∧
    (threadLimitReached s).gap = s.gap ∧
    (threadLimitReached s).gen = s.gen ∧
    (threadLimitReached s).port = s.port ∧
    (threadLimitReached s).now = s.now ∧
    (threadLimitReached s).pending = s.pending := by
  unfold threadLimitReached; (repeat' split) <;> simp

@[simp] theorem threadLimitReached_coord :
    (threadLimitReached s).coord.peers = s.coord.peers ∧
    (threadLimitReached s).coord.drawn = s.coord.drawn ∧
    (threadLimitReached s).coord.mode = s.coord.mode ∧
    (threadLimitReached s).coord.cmax = s.coord.cmax ∧
    (threadLimitReached s).coord.cmaxSeen = s.coord.cmaxSeen ∧
    (threadLimitReached s).coord.ap = s.coord.ap ∧
    (threadLimitReached s).coord.af = s.coord.af := by
  unfold threadLimitReached; (repeat' split) <;> simp

@[simp] theorem openWindow_frame (p : PartNo) :
    (openWindow p s).straps = s.straps ∧
    (openWindow p s).store = s.store ∧
    (openWindow p s).conds = s.conds ∧
    (openWindow p s).setup = s.setup ∧
    (openWindow p s).walking = s.walking ∧
    (openWindow p s).gap = s.gap ∧
    (openWindow p s).gen = s.gen ∧
    (openWindow p s).port = s.port ∧
    (openWindow p s).link = s.link ∧
    (openWindow p s).now = s.now ∧
    (openWindow p s).pending = s.pending := by
  simp only [openWindow, atBoundary]; (repeat' split) <;> simp

@[simp] theorem openWindow_coord (p : PartNo) :
    (openWindow p s).coord.peers = s.coord.peers ∧
    (openWindow p s).coord.drawn = s.coord.drawn ∧
    (openWindow p s).coord.mode = s.coord.mode ∧
    (openWindow p s).coord.cmax = s.coord.cmax ∧
    (openWindow p s).coord.cmaxSeen = s.coord.cmaxSeen ∧
    (openWindow p s).coord.ap = s.coord.ap ∧
    (openWindow p s).coord.af = s.coord.af := by
  simp only [openWindow, atBoundary]; (repeat' split) <;> simp

@[simp] theorem endRecovery_frame (p : PartNo) :
    (endRecovery p s).straps = s.straps ∧
    (endRecovery p s).store = s.store ∧
    (endRecovery p s).conds = s.conds ∧
    (endRecovery p s).setup = s.setup ∧
    (endRecovery p s).locks = s.locks ∧
    (endRecovery p s).walking = s.walking ∧
    (endRecovery p s).fetch = s.fetch ∧
    (endRecovery p s).queue = s.queue ∧
    (endRecovery p s).history = s.history ∧
    (endRecovery p s).gap = s.gap ∧
    (endRecovery p s).gen = s.gen ∧
    (endRecovery p s).exe = s.exe ∧
    (endRecovery p s).thr = s.thr ∧
    (endRecovery p s).filters = s.filters ∧
    (endRecovery p s).coord = s.coord ∧
    (endRecovery p s).port = s.port ∧
    (endRecovery p s).link = s.link ∧
    (endRecovery p s).reports = s.reports ∧
    (endRecovery p s).now = s.now ∧
    (endRecovery p s).raised = s.raised ∧
    (endRecovery p s).pending = s.pending := by
  simp [endRecovery]

@[simp] theorem stopTaken_frame (b : Bool) (a : Point) (c : CondNo) :
    (stopTaken b a c s).straps = s.straps ∧
    (stopTaken b a c s).store = s.store ∧
    (stopTaken b a c s).conds = s.conds ∧
    (stopTaken b a c s).setup = s.setup ∧
    (stopTaken b a c s).walking = s.walking ∧
    (stopTaken b a c s).gap = s.gap ∧
    (stopTaken b a c s).gen = s.gen ∧
    (stopTaken b a c s).port = s.port ∧
    (stopTaken b a c s).link = s.link ∧
    (stopTaken b a c s).now = s.now ∧
    (stopTaken b a c s).pending = s.pending := by
  unfold stopTaken; split
  · simp
  · simp only; (repeat' split) <;> simp

@[simp] theorem stopTaken_coord (b : Bool) (a : Point) (c : CondNo) :
    (stopTaken b a c s).coord.peers = s.coord.peers ∧
    (stopTaken b a c s).coord.drawn = s.coord.drawn ∧
    (stopTaken b a c s).coord.mode = s.coord.mode ∧
    (stopTaken b a c s).coord.cmax = s.coord.cmax ∧
    (stopTaken b a c s).coord.cmaxSeen = s.coord.cmaxSeen ∧
    (stopTaken b a c s).coord.ap = s.coord.ap ∧
    (stopTaken b a c s).coord.af = s.coord.af := by
  unfold stopTaken; split
  · simp
  · simp only; (repeat' split) <;> simp

@[simp] theorem faultTaken_frame (c : FetchFault) :
    (faultTaken c s).straps = s.straps ∧
    (faultTaken c s).store = s.store ∧
    (faultTaken c s).conds = s.conds ∧
    (faultTaken c s).setup = s.setup ∧
    (faultTaken c s).walking = s.walking ∧
    (faultTaken c s).gap = s.gap ∧
    (faultTaken c s).gen = s.gen ∧
    (faultTaken c s).port = s.port ∧
    (faultTaken c s).link = s.link ∧
    (faultTaken c s).now = s.now ∧
    (faultTaken c s).pending = s.pending := by
  simp only [faultTaken, atBoundary]; (repeat' split) <;> simp

@[simp] theorem faultTaken_coord (c : FetchFault) :
    (faultTaken c s).coord.peers = s.coord.peers ∧
    (faultTaken c s).coord.drawn = s.coord.drawn ∧
    (faultTaken c s).coord.mode = s.coord.mode ∧
    (faultTaken c s).coord.cmax = s.coord.cmax ∧
    (faultTaken c s).coord.cmaxSeen = s.coord.cmaxSeen ∧
    (faultTaken c s).coord.ap = s.coord.ap ∧
    (faultTaken c s).coord.af = s.coord.af := by
  simp only [faultTaken, atBoundary]; (repeat' split) <;> simp

@[simp] theorem targetReached_frame :
    (targetReached s).straps = s.straps ∧
    (targetReached s).store = s.store ∧
    (targetReached s).conds = s.conds ∧
    (targetReached s).setup = s.setup ∧
    (targetReached s).locks = s.locks ∧
    (targetReached s).walking = s.walking ∧
    (targetReached s).fetch = s.fetch ∧
    (targetReached s).queue = s.queue ∧
    (targetReached s).history = s.history ∧
    (targetReached s).gap = s.gap ∧
    (targetReached s).gen = s.gen ∧
    (targetReached s).exe = s.exe ∧
    (targetReached s).thr = s.thr ∧
    (targetReached s).filters = s.filters ∧
    (targetReached s).coord = s.coord ∧
    (targetReached s).port = s.port ∧
    (targetReached s).link = s.link ∧
    (targetReached s).reports = s.reports ∧
    (targetReached s).now = s.now ∧
    (targetReached s).raised = s.raised ∧
    (targetReached s).pending = s.pending := by
  unfold targetReached; split <;> simp

@[simp] theorem earlyDrop_frame (p : PartNo) :
    (earlyDrop p s).straps = s.straps ∧
    (earlyDrop p s).store = s.store ∧
    (earlyDrop p s).conds = s.conds ∧
    (earlyDrop p s).setup = s.setup ∧
    (earlyDrop p s).locks = s.locks ∧
    (earlyDrop p s).walking = s.walking ∧
    (earlyDrop p s).gap = s.gap ∧
    (earlyDrop p s).gen = s.gen ∧
    (earlyDrop p s).port = s.port ∧
    (earlyDrop p s).link = s.link ∧
    (earlyDrop p s).now = s.now ∧
    (earlyDrop p s).pending = s.pending := by
  simp [earlyDrop]

@[simp] theorem earlyDrop_coord (p : PartNo) :
    (earlyDrop p s).coord.peers = s.coord.peers ∧
    (earlyDrop p s).coord.drawn = s.coord.drawn ∧
    (earlyDrop p s).coord.mode = s.coord.mode ∧
    (earlyDrop p s).coord.cmax = s.coord.cmax ∧
    (earlyDrop p s).coord.cmaxSeen = s.coord.cmaxSeen ∧
    (earlyDrop p s).coord.ap = s.coord.ap ∧
    (earlyDrop p s).coord.af = s.coord.af := by
  simp [earlyDrop]

@[simp] theorem dropInWindow_frame (p : PartNo) :
    (dropInWindow p s).straps = s.straps ∧
    (dropInWindow p s).store = s.store ∧
    (dropInWindow p s).conds = s.conds ∧
    (dropInWindow p s).setup = s.setup ∧
    (dropInWindow p s).locks = s.locks ∧
    (dropInWindow p s).walking = s.walking ∧
    (dropInWindow p s).fetch = s.fetch ∧
    (dropInWindow p s).queue = s.queue ∧
    (dropInWindow p s).history = s.history ∧
    (dropInWindow p s).gap = s.gap ∧
    (dropInWindow p s).gen = s.gen ∧
    (dropInWindow p s).exe = s.exe ∧
    (dropInWindow p s).port = s.port ∧
    (dropInWindow p s).link = s.link ∧
    (dropInWindow p s).now = s.now ∧
    (dropInWindow p s).pending = s.pending := by
  simp [dropInWindow]

@[simp] theorem dropInWindow_coord (p : PartNo) :
    (dropInWindow p s).coord.peers = s.coord.peers ∧
    (dropInWindow p s).coord.drawn = s.coord.drawn ∧
    (dropInWindow p s).coord.mode = s.coord.mode ∧
    (dropInWindow p s).coord.cmax = s.coord.cmax ∧
    (dropInWindow p s).coord.cmaxSeen = s.coord.cmaxSeen ∧
    (dropInWindow p s).coord.ap = s.coord.ap ∧
    (dropInWindow p s).coord.af = s.coord.af := by
  simp [dropInWindow]

@[simp] theorem unattributedDrop_frame :
    (unattributedDrop s).straps = s.straps ∧
    (unattributedDrop s).store = s.store ∧
    (unattributedDrop s).conds = s.conds ∧
    (unattributedDrop s).nest = s.nest ∧
    (unattributedDrop s).setup = s.setup ∧
    (unattributedDrop s).locks = s.locks ∧
    (unattributedDrop s).walking = s.walking ∧
    (unattributedDrop s).fetch = s.fetch ∧
    (unattributedDrop s).queue = s.queue ∧
    (unattributedDrop s).history = s.history ∧
    (unattributedDrop s).gap = s.gap ∧
    (unattributedDrop s).gen = s.gen ∧
    (unattributedDrop s).exe = s.exe ∧
    (unattributedDrop s).thr = s.thr ∧
    (unattributedDrop s).filters = s.filters ∧
    (unattributedDrop s).coord = s.coord ∧
    (unattributedDrop s).port = s.port ∧
    (unattributedDrop s).link = s.link ∧
    (unattributedDrop s).now = s.now ∧
    (unattributedDrop s).raised = s.raised ∧
    (unattributedDrop s).pending = s.pending := by
  simp [unattributedDrop]

@[simp] theorem dropTaken_frame :
    (dropTaken s).straps = s.straps ∧
    (dropTaken s).store = s.store ∧
    (dropTaken s).conds = s.conds ∧
    (dropTaken s).setup = s.setup ∧
    (dropTaken s).locks = s.locks ∧
    (dropTaken s).walking = s.walking ∧
    (dropTaken s).gap = s.gap ∧
    (dropTaken s).gen = s.gen ∧
    (dropTaken s).port = s.port ∧
    (dropTaken s).link = s.link ∧
    (dropTaken s).now = s.now ∧
    (dropTaken s).pending = s.pending := by
  unfold dropTaken; split
  · split <;> simp
  · simp

@[simp] theorem dropTaken_coord :
    (dropTaken s).coord.peers = s.coord.peers ∧
    (dropTaken s).coord.drawn = s.coord.drawn ∧
    (dropTaken s).coord.mode = s.coord.mode ∧
    (dropTaken s).coord.cmax = s.coord.cmax ∧
    (dropTaken s).coord.cmaxSeen = s.coord.cmaxSeen ∧
    (dropTaken s).coord.ap = s.coord.ap ∧
    (dropTaken s).coord.af = s.coord.af := by
  unfold dropTaken; split
  · split <;> simp
  · simp

@[simp] theorem windowExpired_frame (p : PartNo) :
    (windowExpired p s).straps = s.straps ∧
    (windowExpired p s).store = s.store ∧
    (windowExpired p s).conds = s.conds ∧
    (windowExpired p s).setup = s.setup ∧
    (windowExpired p s).locks = s.locks ∧
    (windowExpired p s).walking = s.walking ∧
    (windowExpired p s).fetch = s.fetch ∧
    (windowExpired p s).queue = s.queue ∧
    (windowExpired p s).history = s.history ∧
    (windowExpired p s).gap = s.gap ∧
    (windowExpired p s).gen = s.gen ∧
    (windowExpired p s).exe = s.exe ∧
    (windowExpired p s).port = s.port ∧
    (windowExpired p s).link = s.link ∧
    (windowExpired p s).now = s.now ∧
    (windowExpired p s).pending = s.pending := by
  unfold windowExpired; simp only; split <;> simp

@[simp] theorem windowExpired_coord (p : PartNo) :
    (windowExpired p s).coord.peers = s.coord.peers ∧
    (windowExpired p s).coord.drawn = s.coord.drawn ∧
    (windowExpired p s).coord.mode = s.coord.mode ∧
    (windowExpired p s).coord.cmax = s.coord.cmax ∧
    (windowExpired p s).coord.cmaxSeen = s.coord.cmaxSeen ∧
    (windowExpired p s).coord.ap = s.coord.ap ∧
    (windowExpired p s).coord.af = s.coord.af := by
  unfold windowExpired; simp only; split <;> simp

end Sys2Proof.Machine
end

