-- ==== Sys2Proof/Laws/Threading.lean ====
section
/-! SUPPORT. What each operation of Machine/Threading.lean leaves unchanged: one lemma per operation, read field by
field by `simp`. -/

namespace Sys2Proof.Machine

variable (s : State)

@[simp] theorem claimJet_frame :
    (claimJet s).straps = s.straps ∧
    (claimJet s).store = s.store ∧
    (claimJet s).conds = s.conds ∧
    (claimJet s).nest = s.nest ∧
    (claimJet s).setup = s.setup ∧
    (claimJet s).locks = s.locks ∧
    (claimJet s).walking = s.walking ∧
    (claimJet s).seq = s.seq ∧
    (claimJet s).fetch = s.fetch ∧
    (claimJet s).queue = s.queue ∧
    (claimJet s).history = s.history ∧
    (claimJet s).gap = s.gap ∧
    (claimJet s).gen = s.gen ∧
    (claimJet s).exe = s.exe ∧
    (claimJet s).thr = s.thr ∧
    (claimJet s).filters = s.filters ∧
    (claimJet s).port = s.port ∧
    (claimJet s).link = s.link ∧
    (claimJet s).reports = s.reports ∧
    (claimJet s).now = s.now ∧
    (claimJet s).raised = s.raised ∧
    (claimJet s).pending = s.pending := by
  and_intros <;> rfl

@[simp] theorem claimJet_coord :
    (claimJet s).coord.peers = s.coord.peers ∧
    (claimJet s).coord.drawn = s.coord.drawn ∧
    (claimJet s).coord.mode = s.coord.mode ∧
    (claimJet s).coord.cmax = s.coord.cmax ∧
    (claimJet s).coord.cmaxSeen = s.coord.cmaxSeen ∧
    (claimJet s).coord.ap = s.coord.ap ∧
    (claimJet s).coord.af = s.coord.af := by
  unfold claimJet; simp only [State.modCoord_coord]; split <;> simp

@[simp] theorem enterJetClaim_frame :
    (enterJetClaim s).straps = s.straps ∧
    (enterJetClaim s).store = s.store ∧
    (enterJetClaim s).conds = s.conds ∧
    (enterJetClaim s).nest = s.nest ∧
    (enterJetClaim s).setup = s.setup ∧
    (enterJetClaim s).locks = s.locks ∧
    (enterJetClaim s).walking = s.walking ∧
    (enterJetClaim s).seq = s.seq ∧
    (enterJetClaim s).fetch = s.fetch ∧
    (enterJetClaim s).queue = s.queue ∧
    (enterJetClaim s).history = s.history ∧
    (enterJetClaim s).gap = s.gap ∧
    (enterJetClaim s).gen = s.gen ∧
    (enterJetClaim s).exe = s.exe ∧
    (enterJetClaim s).filters = s.filters ∧
    (enterJetClaim s).port = s.port ∧
    (enterJetClaim s).link = s.link ∧
    (enterJetClaim s).reports = s.reports ∧
    (enterJetClaim s).now = s.now ∧
    (enterJetClaim s).raised = s.raised ∧
    (enterJetClaim s).pending = s.pending := by
  simp [enterJetClaim]

@[simp] theorem enterJetClaim_coord :
    (enterJetClaim s).coord.peers = s.coord.peers ∧
    (enterJetClaim s).coord.drawn = s.coord.drawn ∧
    (enterJetClaim s).coord.mode = s.coord.mode ∧
    (enterJetClaim s).coord.cmax = s.coord.cmax ∧
    (enterJetClaim s).coord.cmaxSeen = s.coord.cmaxSeen ∧
    (enterJetClaim s).coord.ap = s.coord.ap ∧
    (enterJetClaim s).coord.af = s.coord.af := by
  simp [enterJetClaim]

@[simp] theorem enterFeed_frame :
    (enterFeed s).straps = s.straps ∧
    (enterFeed s).store = s.store ∧
    (enterFeed s).conds = s.conds ∧
    (enterFeed s).nest = s.nest ∧
    (enterFeed s).setup = s.setup ∧
    (enterFeed s).locks = s.locks ∧
    (enterFeed s).walking = s.walking ∧
    (enterFeed s).seq = s.seq ∧
    (enterFeed s).fetch = s.fetch ∧
    (enterFeed s).queue = s.queue ∧
    (enterFeed s).history = s.history ∧
    (enterFeed s).gap = s.gap ∧
    (enterFeed s).gen = s.gen ∧
    (enterFeed s).exe = s.exe ∧
    (enterFeed s).coord = s.coord ∧
    (enterFeed s).port = s.port ∧
    (enterFeed s).link = s.link ∧
    (enterFeed s).reports = s.reports ∧
    (enterFeed s).now = s.now ∧
    (enterFeed s).pending = s.pending := by
  simp [enterFeed]

@[simp] theorem grant_frame :
    (grant s).straps = s.straps ∧
    (grant s).store = s.store ∧
    (grant s).conds = s.conds ∧
    (grant s).setup = s.setup ∧
    (grant s).walking = s.walking ∧
    (grant s).gap = s.gap ∧
    (grant s).gen = s.gen ∧
    (grant s).port = s.port ∧
    (grant s).link = s.link ∧
    (grant s).now = s.now ∧
    (grant s).pending = s.pending := by
  simp only [grant, atBoundary]; split <;> simp

@[simp] theorem grant_coord :
    (grant s).coord.peers = s.coord.peers ∧
    (grant s).coord.drawn = s.coord.drawn ∧
    (grant s).coord.mode = s.coord.mode ∧
    (grant s).coord.cmax = s.coord.cmax ∧
    (grant s).coord.cmaxSeen = s.coord.cmaxSeen ∧
    (grant s).coord.ap = s.coord.ap ∧
    (grant s).coord.af = s.coord.af := by
  simp only [grant, atBoundary]; split <;> simp

@[simp] theorem grantTest_frame :
    (grantTest s).straps = s.straps ∧
    (grantTest s).store = s.store ∧
    (grantTest s).conds = s.conds ∧
    (grantTest s).setup = s.setup ∧
    (grantTest s).walking = s.walking ∧
    (grantTest s).gap = s.gap ∧
    (grantTest s).gen = s.gen ∧
    (grantTest s).port = s.port ∧
    (grantTest s).link = s.link ∧
    (grantTest s).now = s.now ∧
    (grantTest s).pending = s.pending := by
  unfold grantTest; split <;> simp

@[simp] theorem grantTest_coord :
    (grantTest s).coord.peers = s.coord.peers ∧
    (grantTest s).coord.drawn = s.coord.drawn ∧
    (grantTest s).coord.mode = s.coord.mode ∧
    (grantTest s).coord.cmax = s.coord.cmax ∧
    (grantTest s).coord.cmaxSeen = s.coord.cmaxSeen ∧
    (grantTest s).coord.ap = s.coord.ap ∧
    (grantTest s).coord.af = s.coord.af := by
  unfold grantTest; split <;> simp

@[simp] theorem jetConflict_frame (n : StationNo) :
    (jetConflict n s).straps = s.straps ∧
    (jetConflict n s).store = s.store ∧
    (jetConflict n s).conds = s.conds ∧
    (jetConflict n s).nest = s.nest ∧
    (jetConflict n s).setup = s.setup ∧
    (jetConflict n s).locks = s.locks ∧
    (jetConflict n s).walking = s.walking ∧
    (jetConflict n s).seq = s.seq ∧
    (jetConflict n s).fetch = s.fetch ∧
    (jetConflict n s).queue = s.queue ∧
    (jetConflict n s).history = s.history ∧
    (jetConflict n s).gap = s.gap ∧
    (jetConflict n s).gen = s.gen ∧
    (jetConflict n s).exe = s.exe ∧
    (jetConflict n s).port = s.port ∧
    (jetConflict n s).link = s.link ∧
    (jetConflict n s).now = s.now ∧
    (jetConflict n s).raised = s.raised ∧
    (jetConflict n s).pending = s.pending := by
  simp [jetConflict]

@[simp] theorem jetConflict_coord (n : StationNo) :
    (jetConflict n s).coord.peers = s.coord.peers ∧
    (jetConflict n s).coord.drawn = s.coord.drawn ∧
    (jetConflict n s).coord.mode = s.coord.mode ∧
    (jetConflict n s).coord.cmax = s.coord.cmax ∧
    (jetConflict n s).coord.cmaxSeen = s.coord.cmaxSeen ∧
    (jetConflict n s).coord.ap = s.coord.ap ∧
    (jetConflict n s).coord.af = s.coord.af := by
  simp [jetConflict]

@[simp] theorem enterAnneal_frame :
    (enterAnneal s).straps = s.straps ∧
    (enterAnneal s).store = s.store ∧
    (enterAnneal s).conds = s.conds ∧
    (enterAnneal s).nest = s.nest ∧
    (enterAnneal s).setup = s.setup ∧
    (enterAnneal s).locks = s.locks ∧
    (enterAnneal s).walking = s.walking ∧
    (enterAnneal s).seq = s.seq ∧
    (enterAnneal s).fetch = s.fetch ∧
    (enterAnneal s).queue = s.queue ∧
    (enterAnneal s).history = s.history ∧
    (enterAnneal s).gap = s.gap ∧
    (enterAnneal s).gen = s.gen ∧
    (enterAnneal s).exe = s.exe ∧
    (enterAnneal s).coord = s.coord ∧
    (enterAnneal s).port = s.port ∧
    (enterAnneal s).link = s.link ∧
    (enterAnneal s).reports = s.reports ∧
    (enterAnneal s).now = s.now ∧
    (enterAnneal s).raised = s.raised ∧
    (enterAnneal s).pending = s.pending := by
  simp [enterAnneal]

@[simp] theorem annealTest_frame :
    (annealTest s).straps = s.straps ∧
    (annealTest s).store = s.store ∧
    (annealTest s).conds = s.conds ∧
    (annealTest s).setup = s.setup ∧
    (annealTest s).walking = s.walking ∧
    (annealTest s).gap = s.gap ∧
    (annealTest s).gen = s.gen ∧
    (annealTest s).port = s.port ∧
    (annealTest s).link = s.link ∧
    (annealTest s).now = s.now ∧
    (annealTest s).pending = s.pending := by
  unfold annealTest; split
  · unfold atBoundary; split <;> simp
  · simp

@[simp] theorem annealTest_coord :
    (annealTest s).coord.peers = s.coord.peers ∧
    (annealTest s).coord.drawn = s.coord.drawn ∧
    (annealTest s).coord.mode = s.coord.mode ∧
    (annealTest s).coord.cmax = s.coord.cmax ∧
    (annealTest s).coord.cmaxSeen = s.coord.cmaxSeen ∧
    (annealTest s).coord.ap = s.coord.ap ∧
    (annealTest s).coord.af = s.coord.af := by
  unfold annealTest; split
  · unfold atBoundary; split <;> simp
  · simp

@[simp] theorem annealEnded_frame :
    (annealEnded s).straps = s.straps ∧
    (annealEnded s).store = s.store ∧
    (annealEnded s).conds = s.conds ∧
    (annealEnded s).setup = s.setup ∧
    (annealEnded s).walking = s.walking ∧
    (annealEnded s).gap = s.gap ∧
    (annealEnded s).gen = s.gen ∧
    (annealEnded s).port = s.port ∧
    (annealEnded s).link = s.link ∧
    (annealEnded s).now = s.now ∧
    (annealEnded s).pending = s.pending := by
  simp only [annealEnded, atBoundary]; split <;> simp

@[simp] theorem annealEnded_coord :
    (annealEnded s).coord.peers = s.coord.peers ∧
    (annealEnded s).coord.drawn = s.coord.drawn ∧
    (annealEnded s).coord.mode = s.coord.mode ∧
    (annealEnded s).coord.cmax = s.coord.cmax ∧
    (annealEnded s).coord.cmaxSeen = s.coord.cmaxSeen ∧
    (annealEnded s).coord.ap = s.coord.ap ∧
    (annealEnded s).coord.af = s.coord.af := by
  simp only [annealEnded, atBoundary]; split <;> simp

@[simp] theorem enterTension_frame :
    (enterTension s).straps = s.straps ∧
    (enterTension s).store = s.store ∧
    (enterTension s).conds = s.conds ∧
    (enterTension s).nest = s.nest ∧
    (enterTension s).setup = s.setup ∧
    (enterTension s).locks = s.locks ∧
    (enterTension s).walking = s.walking ∧
    (enterTension s).seq = s.seq ∧
    (enterTension s).fetch = s.fetch ∧
    (enterTension s).queue = s.queue ∧
    (enterTension s).history = s.history ∧
    (enterTension s).gap = s.gap ∧
    (enterTension s).gen = s.gen ∧
    (enterTension s).exe = s.exe ∧
    (enterTension s).coord = s.coord ∧
    (enterTension s).port = s.port ∧
    (enterTension s).link = s.link ∧
    (enterTension s).reports = s.reports ∧
    (enterTension s).now = s.now ∧
    (enterTension s).pending = s.pending := by
  simp [enterTension]

@[simp] theorem contactTaken_frame :
    (contactTaken s).straps = s.straps ∧
    (contactTaken s).store = s.store ∧
    (contactTaken s).conds = s.conds ∧
    (contactTaken s).setup = s.setup ∧
    (contactTaken s).walking = s.walking ∧
    (contactTaken s).gap = s.gap ∧
    (contactTaken s).gen = s.gen ∧
    (contactTaken s).port = s.port ∧
    (contactTaken s).link = s.link ∧
    (contactTaken s).now = s.now ∧
    (contactTaken s).pending = s.pending := by
  simp only [contactTaken, atBoundary]; split <;> simp

@[simp] theorem contactTaken_coord :
    (contactTaken s).coord.peers = s.coord.peers ∧
    (contactTaken s).coord.drawn = s.coord.drawn ∧
    (contactTaken s).coord.mode = s.coord.mode ∧
    (contactTaken s).coord.cmax = s.coord.cmax ∧
    (contactTaken s).coord.cmaxSeen = s.coord.cmaxSeen ∧
    (contactTaken s).coord.ap = s.coord.ap ∧
    (contactTaken s).coord.af = s.coord.af := by
  simp only [contactTaken, atBoundary]; split <;> simp

@[simp] theorem enterDone_frame :
    (enterDone s).straps = s.straps ∧
    (enterDone s).store = s.store ∧
    (enterDone s).conds = s.conds ∧
    (enterDone s).setup = s.setup ∧
    (enterDone s).walking = s.walking ∧
    (enterDone s).gap = s.gap ∧
    (enterDone s).gen = s.gen ∧
    (enterDone s).port = s.port ∧
    (enterDone s).link = s.link ∧
    (enterDone s).now = s.now ∧
    (enterDone s).pending = s.pending := by
  simp [enterDone]

@[simp] theorem enterDone_coord :
    (enterDone s).coord.peers = s.coord.peers ∧
    (enterDone s).coord.drawn = s.coord.drawn ∧
    (enterDone s).coord.mode = s.coord.mode ∧
    (enterDone s).coord.cmax = s.coord.cmax ∧
    (enterDone s).coord.cmaxSeen = s.coord.cmaxSeen ∧
    (enterDone s).coord.ap = s.coord.ap ∧
    (enterDone s).coord.af = s.coord.af := by
  simp [enterDone]

@[simp] theorem attemptFailed_frame (f : ThreadFailure) :
    (attemptFailed f s).straps = s.straps ∧
    (attemptFailed f s).store = s.store ∧
    (attemptFailed f s).conds = s.conds ∧
    (attemptFailed f s).setup = s.setup ∧
    (attemptFailed f s).gap = s.gap ∧
    (attemptFailed f s).gen = s.gen ∧
    (attemptFailed f s).port = s.port ∧
    (attemptFailed f s).now = s.now ∧
    (attemptFailed f s).pending = s.pending := by
  simp only [attemptFailed, atBoundary]; (repeat' split) <;> simp

@[simp] theorem attemptFailed_coord (f : ThreadFailure) :
    (attemptFailed f s).coord.peers = s.coord.peers ∧
    (attemptFailed f s).coord.drawn = s.coord.drawn ∧
    (attemptFailed f s).coord.mode = s.coord.mode ∧
    (attemptFailed f s).coord.cmax = s.coord.cmax ∧
    (attemptFailed f s).coord.cmaxSeen = s.coord.cmaxSeen ∧
    (attemptFailed f s).coord.ap = s.coord.ap ∧
    (attemptFailed f s).coord.af = s.coord.af := by
  simp only [attemptFailed, atBoundary]; (repeat' split) <;> simp

@[simp] theorem strokeEnded_frame :
    (strokeEnded s).straps = s.straps ∧
    (strokeEnded s).store = s.store ∧
    (strokeEnded s).conds = s.conds ∧
    (strokeEnded s).nest = s.nest ∧
    (strokeEnded s).setup = s.setup ∧
    (strokeEnded s).locks = s.locks ∧
    (strokeEnded s).walking = s.walking ∧
    (strokeEnded s).seq = s.seq ∧
    (strokeEnded s).fetch = s.fetch ∧
    (strokeEnded s).queue = s.queue ∧
    (strokeEnded s).history = s.history ∧
    (strokeEnded s).gap = s.gap ∧
    (strokeEnded s).gen = s.gen ∧
    (strokeEnded s).exe = s.exe ∧
    (strokeEnded s).coord = s.coord ∧
    (strokeEnded s).port = s.port ∧
    (strokeEnded s).link = s.link ∧
    (strokeEnded s).reports = s.reports ∧
    (strokeEnded s).now = s.now ∧
    (strokeEnded s).raised = s.raised ∧
    (strokeEnded s).pending = s.pending := by
  simp [strokeEnded]

@[simp] theorem cutterDoneTaken_frame :
    (cutterDoneTaken s).straps = s.straps ∧
    (cutterDoneTaken s).store = s.store ∧
    (cutterDoneTaken s).conds = s.conds ∧
    (cutterDoneTaken s).setup = s.setup ∧
    (cutterDoneTaken s).walking = s.walking ∧
    (cutterDoneTaken s).gap = s.gap ∧
    (cutterDoneTaken s).gen = s.gen ∧
    (cutterDoneTaken s).port = s.port ∧
    (cutterDoneTaken s).link = s.link ∧
    (cutterDoneTaken s).now = s.now ∧
    (cutterDoneTaken s).pending = s.pending := by
  simp only [cutterDoneTaken, atBoundary]; (repeat' split) <;> simp

@[simp] theorem cutterDoneTaken_coord :
    (cutterDoneTaken s).coord.peers = s.coord.peers ∧
    (cutterDoneTaken s).coord.drawn = s.coord.drawn ∧
    (cutterDoneTaken s).coord.mode = s.coord.mode ∧
    (cutterDoneTaken s).coord.cmax = s.coord.cmax ∧
    (cutterDoneTaken s).coord.cmaxSeen = s.coord.cmaxSeen ∧
    (cutterDoneTaken s).coord.ap = s.coord.ap ∧
    (cutterDoneTaken s).coord.af = s.coord.af := by
  simp only [cutterDoneTaken, atBoundary]; (repeat' split) <;> simp

@[simp] theorem cutterFault_frame :
    (cutterFault s).straps = s.straps ∧
    (cutterFault s).store = s.store ∧
    (cutterFault s).conds = s.conds ∧
    (cutterFault s).setup = s.setup ∧
    (cutterFault s).locks = s.locks ∧
    (cutterFault s).gap = s.gap ∧
    (cutterFault s).gen = s.gen ∧
    (cutterFault s).port = s.port ∧
    (cutterFault s).now = s.now ∧
    (cutterFault s).raised = s.raised ∧
    (cutterFault s).pending = s.pending := by
  unfold cutterFault; simp only; split <;> simp

@[simp] theorem cutterFault_coord :
    (cutterFault s).coord.peers = s.coord.peers ∧
    (cutterFault s).coord.drawn = s.coord.drawn ∧
    (cutterFault s).coord.mode = s.coord.mode ∧
    (cutterFault s).coord.cmax = s.coord.cmax ∧
    (cutterFault s).coord.cmaxSeen = s.coord.cmaxSeen ∧
    (cutterFault s).coord.ap = s.coord.ap ∧
    (cutterFault s).coord.af = s.coord.af := by
  unfold cutterFault; simp only; split <;> simp

@[simp] theorem wireBroken_frame :
    (wireBroken s).straps = s.straps ∧
    (wireBroken s).store = s.store ∧
    (wireBroken s).conds = s.conds ∧
    (wireBroken s).setup = s.setup ∧
    (wireBroken s).walking = s.walking ∧
    (wireBroken s).gap = s.gap ∧
    (wireBroken s).gen = s.gen ∧
    (wireBroken s).port = s.port ∧
    (wireBroken s).link = s.link ∧
    (wireBroken s).now = s.now ∧
    (wireBroken s).pending = s.pending := by
  simp [wireBroken]

@[simp] theorem wireBroken_coord :
    (wireBroken s).coord.peers = s.coord.peers ∧
    (wireBroken s).coord.drawn = s.coord.drawn ∧
    (wireBroken s).coord.mode = s.coord.mode ∧
    (wireBroken s).coord.cmax = s.coord.cmax ∧
    (wireBroken s).coord.cmaxSeen = s.coord.cmaxSeen ∧
    (wireBroken s).coord.ap = s.coord.ap ∧
    (wireBroken s).coord.af = s.coord.af := by
  simp [wireBroken]

end Sys2Proof.Machine
end

