-- ==== Sys2Proof/Laws/Events.lean ====
section
/-! SUPPORT. What each operation of Machine/Events.lean leaves unchanged: one lemma per operation, read field by
field by `simp`. -/

namespace Sys2Proof.Machine

variable (s : State)

@[simp] theorem actOn_frame (i : Input) (l : Level) :
    (actOn i l s).straps = s.straps ∧
    (actOn i l s).store = s.store ∧
    (actOn i l s).conds = s.conds ∧
    (actOn i l s).setup = s.setup ∧
    (actOn i l s).gap = s.gap ∧
    (actOn i l s).gen = s.gen ∧
    (actOn i l s).port = s.port ∧
    (actOn i l s).now = s.now ∧
    (actOn i l s).pending = s.pending := by
  unfold actOn; split <;> (try split) <;> simp

@[simp] theorem actOn_coord (i : Input) (l : Level) :
    (actOn i l s).coord.peers = s.coord.peers ∧
    (actOn i l s).coord.drawn = s.coord.drawn ∧
    (actOn i l s).coord.mode = s.coord.mode ∧
    (actOn i l s).coord.cmax = s.coord.cmax ∧
    (actOn i l s).coord.cmaxSeen = s.coord.cmaxSeen ∧
    (actOn i l s).coord.ap = s.coord.ap ∧
    (actOn i l s).coord.af = s.coord.af := by
  unfold actOn; split <;> (try split) <;> simp

@[simp] theorem takeEvent_frame (i : Input) (l : Level) :
    (takeEvent i l s).straps = s.straps ∧
    (takeEvent i l s).store = s.store ∧
    (takeEvent i l s).conds = s.conds ∧
    (takeEvent i l s).setup = s.setup ∧
    (takeEvent i l s).gap = s.gap ∧
    (takeEvent i l s).gen = s.gen ∧
    (takeEvent i l s).port = s.port ∧
    (takeEvent i l s).now = s.now ∧
    (takeEvent i l s).pending = s.pending := by
  unfold takeEvent; split <;> simp

@[simp] theorem takeEvent_coord (i : Input) (l : Level) :
    (takeEvent i l s).coord.peers = s.coord.peers ∧
    (takeEvent i l s).coord.drawn = s.coord.drawn ∧
    (takeEvent i l s).coord.mode = s.coord.mode ∧
    (takeEvent i l s).coord.cmax = s.coord.cmax ∧
    (takeEvent i l s).coord.cmaxSeen = s.coord.cmaxSeen ∧
    (takeEvent i l s).coord.ap = s.coord.ap ∧
    (takeEvent i l s).coord.af = s.coord.af := by
  unfold takeEvent; split <;> simp

@[simp] theorem conclude_frame (before : State) :
    (conclude before s).straps = s.straps ∧
    (conclude before s).store = s.store ∧
    (conclude before s).conds = s.conds ∧
    (conclude before s).setup = s.setup ∧
    (conclude before s).now = s.now ∧
    (conclude before s).pending = s.pending := by
  simp [conclude]

@[simp] theorem conclude_coord (before : State) :
    (conclude before s).coord.peers = s.coord.peers ∧
    (conclude before s).coord.drawn = s.coord.drawn ∧
    (conclude before s).coord.mode = s.coord.mode ∧
    (conclude before s).coord.cmax = s.coord.cmax ∧
    (conclude before s).coord.cmaxSeen = s.coord.cmaxSeen := by
  simp [conclude]

@[simp] theorem drain_frame (n : Nat) :
    (drain n s).straps = s.straps ∧
    (drain n s).store = s.store ∧
    (drain n s).conds = s.conds ∧
    (drain n s).setup = s.setup ∧
    (drain n s).now = s.now ∧
    (drain n s).pending = s.pending := by
  induction n generalizing s with
  | zero => simp [drain]
  | succ n ih =>
    unfold drain; split
    · simp
    · simp [ih]

@[simp] theorem drain_coord (n : Nat) :
    (drain n s).coord.peers = s.coord.peers ∧
    (drain n s).coord.drawn = s.coord.drawn ∧
    (drain n s).coord.mode = s.coord.mode ∧
    (drain n s).coord.cmax = s.coord.cmax ∧
    (drain n s).coord.cmaxSeen = s.coord.cmaxSeen := by
  induction n generalizing s with
  | zero => simp [drain]
  | succ n ih =>
    unfold drain; split
    · simp
    · simp [ih]

@[simp] theorem quiesce_frame (before : State) :
    (quiesce before s).straps = s.straps ∧
    (quiesce before s).store = s.store ∧
    (quiesce before s).conds = s.conds ∧
    (quiesce before s).setup = s.setup ∧
    (quiesce before s).now = s.now ∧
    (quiesce before s).pending = s.pending := by
  simp [quiesce]

@[simp] theorem quiesce_coord (before : State) :
    (quiesce before s).coord.peers = s.coord.peers ∧
    (quiesce before s).coord.drawn = s.coord.drawn ∧
    (quiesce before s).coord.mode = s.coord.mode ∧
    (quiesce before s).coord.cmax = s.coord.cmax ∧
    (quiesce before s).coord.cmaxSeen = s.coord.cmaxSeen := by
  simp [quiesce]

@[simp] theorem finish_frame (before : State) :
    (finish before s).straps = s.straps ∧
    (finish before s).store = s.store ∧
    (finish before s).conds = s.conds ∧
    (finish before s).setup = s.setup ∧
    (finish before s).now = s.now ∧
    (finish before s).pending = s.pending := by
  simp [finish]

@[simp] theorem finish_coord (before : State) :
    (finish before s).coord.peers = s.coord.peers ∧
    (finish before s).coord.drawn = s.coord.drawn ∧
    (finish before s).coord.mode = s.coord.mode ∧
    (finish before s).coord.cmax = s.coord.cmax ∧
    (finish before s).coord.cmaxSeen = s.coord.cmaxSeen := by
  simp [finish]

@[simp] theorem sampleInput_frame (i : Input) (a b : Level) :
    (sampleInput i a b s).straps = s.straps ∧
    (sampleInput i a b s).store = s.store ∧
    (sampleInput i a b s).conds = s.conds ∧
    (sampleInput i a b s).setup = s.setup ∧
    (sampleInput i a b s).now = s.now ∧
    (sampleInput i a b s).pending = s.pending := by
  unfold sampleInput; split
  · simp
  · simp only; split
    · simp
    · split <;> simp

@[simp] theorem sampleInput_coord (i : Input) (a b : Level) :
    (sampleInput i a b s).coord.peers = s.coord.peers ∧
    (sampleInput i a b s).coord.drawn = s.coord.drawn ∧
    (sampleInput i a b s).coord.mode = s.coord.mode ∧
    (sampleInput i a b s).coord.cmax = s.coord.cmax ∧
    (sampleInput i a b s).coord.cmaxSeen = s.coord.cmaxSeen := by
  unfold sampleInput; split
  · simp
  · simp only; split
    · simp
    · split <;> simp

end Sys2Proof.Machine
end

