-- ==== Sys2Proof/Laws/Outputs.lean ====
section
/-! SUPPORT. What the output words of R179 say of the values they carry. -/

namespace Sys2Proof.Machine

/-- A value in the signed 32-bit range is carried whole. -/
theorem signedWord_toInt (v : Int) (lo : -2147483648 ≤ v) (hi : v ≤ 2147483647) : (signedWord v).toInt = v := by
  simp only [signedWord, BitVec.toInt_ofInt, Int.bmod_def]
  omega

/-- A position in the signed 32-bit range stands whole at the setpoint outputs. -/
theorem outputs_setpoint (s : State) (hx : -2147483648 ≤ s.exe.position.x ∧ s.exe.position.x ≤ 2147483647)
    (hy : -2147483648 ≤ s.exe.position.y ∧ s.exe.position.y ≤ 2147483647) :
    (⟨s.outputs.xSetpoint.toInt, s.outputs.ySetpoint.toInt⟩ : Point) = s.exe.position := by
  simp only [State.outputs, signedWord_toInt _ hx.1 hx.2, signedWord_toInt _ hy.1 hy.2]

/-- While the generator is off, the level output is 0. -/
theorem outputs_level_off (s : State) (h : s.gen.on = false) : s.outputs.level = 0 := by
  simp [State.outputs, State.levelOutput, h]

end Sys2Proof.Machine
end

