-- ==== Sys2Proof/Laws/Servo.lean ====
section
/-! SUPPORT. What each operation of Machine/Servo.lean leaves unchanged: one lemma per operation, read field by
field by `simp`. -/

namespace Sys2Proof.Machine

variable (s : State)

@[simp] theorem targetCheck_fst (r : State × Option HandOver) : (targetCheck r).1 = r.1 := by
  unfold targetCheck; split
  · rfl
  · split <;> rfl

@[simp] theorem tick_frame :
    (tick s).straps = s.straps ∧
    (tick s).store = s.store ∧
    (tick s).conds = s.conds ∧
    (tick s).nest = s.nest ∧
    (tick s).setup = s.setup ∧
    (tick s).locks = s.locks ∧
    (tick s).walking = s.walking ∧
    (tick s).fetch = s.fetch ∧
    (tick s).queue = s.queue ∧
    (tick s).history = s.history ∧
    (tick s).gap = s.gap ∧
    (tick s).gen = s.gen ∧
    (tick s).exe = s.exe ∧
    (tick s).filters = s.filters ∧
    (tick s).link = s.link ∧
    (tick s).reports = s.reports ∧
    (tick s).raised = s.raised ∧
    (tick s).pending = s.pending := by
  simp [tick]

@[simp] theorem closeCapture_frame :
    (closeCapture s).straps = s.straps ∧
    (closeCapture s).store = s.store ∧
    (closeCapture s).conds = s.conds ∧
    (closeCapture s).nest = s.nest ∧
    (closeCapture s).setup = s.setup ∧
    (closeCapture s).locks = s.locks ∧
    (closeCapture s).walking = s.walking ∧
    (closeCapture s).seq = s.seq ∧
    (closeCapture s).fetch = s.fetch ∧
    (closeCapture s).queue = s.queue ∧
    (closeCapture s).history = s.history ∧
    (closeCapture s).gen = s.gen ∧
    (closeCapture s).exe = s.exe ∧
    (closeCapture s).thr = s.thr ∧
    (closeCapture s).filters = s.filters ∧
    (closeCapture s).coord = s.coord ∧
    (closeCapture s).port = s.port ∧
    (closeCapture s).link = s.link ∧
    (closeCapture s).reports = s.reports ∧
    (closeCapture s).now = s.now ∧
    (closeCapture s).raised = s.raised ∧
    (closeCapture s).pending = s.pending := by
  and_intros <;> rfl

@[simp] theorem guardTaken_frame (c : Capture) :
    (guardTaken c s).straps = s.straps ∧
    (guardTaken c s).store = s.store ∧
    (guardTaken c s).conds = s.conds ∧
    (guardTaken c s).nest = s.nest ∧
    (guardTaken c s).setup = s.setup ∧
    (guardTaken c s).locks = s.locks ∧
    (guardTaken c s).walking = s.walking ∧
    (guardTaken c s).seq = s.seq ∧
    (guardTaken c s).fetch = s.fetch ∧
    (guardTaken c s).queue = s.queue ∧
    (guardTaken c s).history = s.history ∧
    (guardTaken c s).gap = s.gap ∧
    (guardTaken c s).exe = s.exe ∧
    (guardTaken c s).thr = s.thr ∧
    (guardTaken c s).filters = s.filters ∧
    (guardTaken c s).coord = s.coord ∧
    (guardTaken c s).port = s.port ∧
    (guardTaken c s).link = s.link ∧
    (guardTaken c s).reports = s.reports ∧
    (guardTaken c s).now = s.now ∧
    (guardTaken c s).raised = s.raised ∧
    (guardTaken c s).pending = s.pending := by
  unfold guardTaken; split <;> simp

@[simp] theorem endTask_frame :
    (endTask s).straps = s.straps ∧
    (endTask s).store = s.store ∧
    (endTask s).conds = s.conds ∧
    (endTask s).nest = s.nest ∧
    (endTask s).setup = s.setup ∧
    (endTask s).locks = s.locks ∧
    (endTask s).walking = s.walking ∧
    (endTask s).seq = s.seq ∧
    (endTask s).fetch = s.fetch ∧
    (endTask s).queue = s.queue ∧
    (endTask s).history = s.history ∧
    (endTask s).gap = s.gap ∧
    (endTask s).gen = s.gen ∧
    (endTask s).thr = s.thr ∧
    (endTask s).filters = s.filters ∧
    (endTask s).coord = s.coord ∧
    (endTask s).port = s.port ∧
    (endTask s).link = s.link ∧
    (endTask s).reports = s.reports ∧
    (endTask s).now = s.now ∧
    (endTask s).raised = s.raised ∧
    (endTask s).pending = s.pending := by
  and_intros <;> rfl

@[simp] theorem removalSeen_frame :
    (removalSeen s).straps = s.straps ∧
    (removalSeen s).store = s.store ∧
    (removalSeen s).conds = s.conds ∧
    (removalSeen s).nest = s.nest ∧
    (removalSeen s).setup = s.setup ∧
    (removalSeen s).locks = s.locks ∧
    (removalSeen s).walking = s.walking ∧
    (removalSeen s).seq = s.seq ∧
    (removalSeen s).queue = s.queue ∧
    (removalSeen s).history = s.history ∧
    (removalSeen s).gap = s.gap ∧
    (removalSeen s).gen = s.gen ∧
    (removalSeen s).exe = s.exe ∧
    (removalSeen s).thr = s.thr ∧
    (removalSeen s).filters = s.filters ∧
    (removalSeen s).coord = s.coord ∧
    (removalSeen s).port = s.port ∧
    (removalSeen s).link = s.link ∧
    (removalSeen s).reports = s.reports ∧
    (removalSeen s).now = s.now ∧
    (removalSeen s).raised = s.raised ∧
    (removalSeen s).pending = s.pending := by
  and_intros <;> rfl

@[simp] theorem applyStride_frame (w : Stride) (d : Nat) :
    (applyStride w d s).straps = s.straps ∧
    (applyStride w d s).store = s.store ∧
    (applyStride w d s).conds = s.conds ∧
    (applyStride w d s).nest = s.nest ∧
    (applyStride w d s).setup = s.setup ∧
    (applyStride w d s).locks = s.locks ∧
    (applyStride w d s).walking = s.walking ∧
    (applyStride w d s).seq = s.seq ∧
    (applyStride w d s).gap = s.gap ∧
    (applyStride w d s).gen = s.gen ∧
    (applyStride w d s).thr = s.thr ∧
    (applyStride w d s).filters = s.filters ∧
    (applyStride w d s).coord = s.coord ∧
    (applyStride w d s).port = s.port ∧
    (applyStride w d s).link = s.link ∧
    (applyStride w d s).reports = s.reports ∧
    (applyStride w d s).now = s.now ∧
    (applyStride w d s).raised = s.raised ∧
    (applyStride w d s).pending = s.pending := by
  unfold applyStride; simp only; by_cases h : w.done = [] <;> simp [h]

@[simp] theorem walkForward_frame (g : Gait) (d : Nat) :
    (walkForward g d s).straps = s.straps ∧
    (walkForward g d s).store = s.store ∧
    (walkForward g d s).conds = s.conds ∧
    (walkForward g d s).nest = s.nest ∧
    (walkForward g d s).setup = s.setup ∧
    (walkForward g d s).locks = s.locks ∧
    (walkForward g d s).walking = s.walking ∧
    (walkForward g d s).seq = s.seq ∧
    (walkForward g d s).gap = s.gap ∧
    (walkForward g d s).gen = s.gen ∧
    (walkForward g d s).thr = s.thr ∧
    (walkForward g d s).filters = s.filters ∧
    (walkForward g d s).coord = s.coord ∧
    (walkForward g d s).port = s.port ∧
    (walkForward g d s).link = s.link ∧
    (walkForward g d s).reports = s.reports ∧
    (walkForward g d s).now = s.now ∧
    (walkForward g d s).raised = s.raised ∧
    (walkForward g d s).pending = s.pending := by
  unfold walkForward; split <;> simp

@[simp] theorem clearStuck_frame :
    (clearStuck s).straps = s.straps ∧
    (clearStuck s).store = s.store ∧
    (clearStuck s).conds = s.conds ∧
    (clearStuck s).nest = s.nest ∧
    (clearStuck s).setup = s.setup ∧
    (clearStuck s).locks = s.locks ∧
    (clearStuck s).walking = s.walking ∧
    (clearStuck s).seq = s.seq ∧
    (clearStuck s).fetch = s.fetch ∧
    (clearStuck s).queue = s.queue ∧
    (clearStuck s).history = s.history ∧
    (clearStuck s).gap = s.gap ∧
    (clearStuck s).gen = s.gen ∧
    (clearStuck s).thr = s.thr ∧
    (clearStuck s).filters = s.filters ∧
    (clearStuck s).coord = s.coord ∧
    (clearStuck s).port = s.port ∧
    (clearStuck s).link = s.link ∧
    (clearStuck s).reports = s.reports ∧
    (clearStuck s).now = s.now ∧
    (clearStuck s).raised = s.raised ∧
    (clearStuck s).pending = s.pending := by
  and_intros <;> rfl

@[simp] theorem advanceMove_frame :
    ((advanceMove s).1).straps = s.straps ∧
    ((advanceMove s).1).store = s.store ∧
    ((advanceMove s).1).conds = s.conds ∧
    ((advanceMove s).1).nest = s.nest ∧
    ((advanceMove s).1).setup = s.setup ∧
    ((advanceMove s).1).locks = s.locks ∧
    ((advanceMove s).1).walking = s.walking ∧
    ((advanceMove s).1).seq = s.seq ∧
    ((advanceMove s).1).fetch = s.fetch ∧
    ((advanceMove s).1).queue = s.queue ∧
    ((advanceMove s).1).history = s.history ∧
    ((advanceMove s).1).gap = s.gap ∧
    ((advanceMove s).1).gen = s.gen ∧
    ((advanceMove s).1).thr = s.thr ∧
    ((advanceMove s).1).filters = s.filters ∧
    ((advanceMove s).1).coord = s.coord ∧
    ((advanceMove s).1).port = s.port ∧
    ((advanceMove s).1).link = s.link ∧
    ((advanceMove s).1).reports = s.reports ∧
    ((advanceMove s).1).now = s.now ∧
    ((advanceMove s).1).raised = s.raised ∧
    ((advanceMove s).1).pending = s.pending := by
  unfold advanceMove; split
  · simp
  · simp only; split <;> simp

@[simp] theorem writeSetpoints_frame :
    (writeSetpoints s).straps = s.straps ∧
    (writeSetpoints s).store = s.store ∧
    (writeSetpoints s).conds = s.conds ∧
    (writeSetpoints s).nest = s.nest ∧
    (writeSetpoints s).setup = s.setup ∧
    (writeSetpoints s).locks = s.locks ∧
    (writeSetpoints s).walking = s.walking ∧
    (writeSetpoints s).seq = s.seq ∧
    (writeSetpoints s).fetch = s.fetch ∧
    (writeSetpoints s).queue = s.queue ∧
    (writeSetpoints s).history = s.history ∧
    (writeSetpoints s).gap = s.gap ∧
    (writeSetpoints s).gen = s.gen ∧
    (writeSetpoints s).thr = s.thr ∧
    (writeSetpoints s).filters = s.filters ∧
    (writeSetpoints s).coord = s.coord ∧
    (writeSetpoints s).port = s.port ∧
    (writeSetpoints s).link = s.link ∧
    (writeSetpoints s).reports = s.reports ∧
    (writeSetpoints s).now = s.now ∧
    (writeSetpoints s).raised = s.raised ∧
    (writeSetpoints s).pending = s.pending := by
  unfold writeSetpoints; split <;> (try split) <;> simp

@[simp] theorem takeHead_frame :
    ((takeHead s).1).straps = s.straps ∧
    ((takeHead s).1).store = s.store ∧
    ((takeHead s).1).conds = s.conds ∧
    ((takeHead s).1).nest = s.nest ∧
    ((takeHead s).1).setup = s.setup ∧
    ((takeHead s).1).locks = s.locks ∧
    ((takeHead s).1).walking = s.walking ∧
    ((takeHead s).1).seq = s.seq ∧
    ((takeHead s).1).history = s.history ∧
    ((takeHead s).1).gap = s.gap ∧
    ((takeHead s).1).gen = s.gen ∧
    ((takeHead s).1).thr = s.thr ∧
    ((takeHead s).1).filters = s.filters ∧
    ((takeHead s).1).coord = s.coord ∧
    ((takeHead s).1).port = s.port ∧
    ((takeHead s).1).link = s.link ∧
    ((takeHead s).1).reports = s.reports ∧
    ((takeHead s).1).now = s.now ∧
    ((takeHead s).1).raised = s.raised ∧
    ((takeHead s).1).pending = s.pending := by
  unfold takeHead; split
  · split
    · simp only; split <;> simp
    · simp
  · simp

@[simp] theorem afterWalk_frame (before : State) :
    ((afterWalk before s).1).straps = s.straps ∧
    ((afterWalk before s).1).store = s.store ∧
    ((afterWalk before s).1).conds = s.conds ∧
    ((afterWalk before s).1).nest = s.nest ∧
    ((afterWalk before s).1).setup = s.setup ∧
    ((afterWalk before s).1).locks = s.locks ∧
    ((afterWalk before s).1).walking = s.walking ∧
    ((afterWalk before s).1).seq = s.seq ∧
    ((afterWalk before s).1).history = s.history ∧
    ((afterWalk before s).1).gap = s.gap ∧
    ((afterWalk before s).1).gen = s.gen ∧
    ((afterWalk before s).1).thr = s.thr ∧
    ((afterWalk before s).1).filters = s.filters ∧
    ((afterWalk before s).1).coord = s.coord ∧
    ((afterWalk before s).1).port = s.port ∧
    ((afterWalk before s).1).link = s.link ∧
    ((afterWalk before s).1).reports = s.reports ∧
    ((afterWalk before s).1).now = s.now ∧
    ((afterWalk before s).1).raised = s.raised ∧
    ((afterWalk before s).1).pending = s.pending := by
  unfold afterWalk; split <;> simp

@[simp] theorem retreatTaken_frame (k : Condition) :
    ((retreatTaken k s).1).straps = s.straps ∧
    ((retreatTaken k s).1).store = s.store ∧
    ((retreatTaken k s).1).conds = s.conds ∧
    ((retreatTaken k s).1).nest = s.nest ∧
    ((retreatTaken k s).1).setup = s.setup ∧
    ((retreatTaken k s).1).locks = s.locks ∧
    ((retreatTaken k s).1).walking = s.walking ∧
    ((retreatTaken k s).1).seq = s.seq ∧
    ((retreatTaken k s).1).fetch = s.fetch ∧
    ((retreatTaken k s).1).queue = s.queue ∧
    ((retreatTaken k s).1).history = s.history ∧
    ((retreatTaken k s).1).gap = s.gap ∧
    ((retreatTaken k s).1).gen = s.gen ∧
    ((retreatTaken k s).1).thr = s.thr ∧
    ((retreatTaken k s).1).filters = s.filters ∧
    ((retreatTaken k s).1).coord = s.coord ∧
    ((retreatTaken k s).1).port = s.port ∧
    ((retreatTaken k s).1).link = s.link ∧
    ((retreatTaken k s).1).reports = s.reports ∧
    ((retreatTaken k s).1).now = s.now ∧
    ((retreatTaken k s).1).raised = s.raised ∧
    ((retreatTaken k s).1).pending = s.pending := by
  unfold retreatTaken; simp only; repeat' split
  all_goals and_intros <;> rfl

@[simp] theorem cutStep_frame (e : Entry) :
    ((cutStep e s).1).straps = s.straps ∧
    ((cutStep e s).1).store = s.store ∧
    ((cutStep e s).1).conds = s.conds ∧
    ((cutStep e s).1).nest = s.nest ∧
    ((cutStep e s).1).setup = s.setup ∧
    ((cutStep e s).1).locks = s.locks ∧
    ((cutStep e s).1).walking = s.walking ∧
    ((cutStep e s).1).seq = s.seq ∧
    ((cutStep e s).1).gap = s.gap ∧
    ((cutStep e s).1).gen = s.gen ∧
    ((cutStep e s).1).thr = s.thr ∧
    ((cutStep e s).1).filters = s.filters ∧
    ((cutStep e s).1).coord = s.coord ∧
    ((cutStep e s).1).port = s.port ∧
    ((cutStep e s).1).link = s.link ∧
    ((cutStep e s).1).reports = s.reports ∧
    ((cutStep e s).1).now = s.now ∧
    ((cutStep e s).1).raised = s.raised ∧
    ((cutStep e s).1).pending = s.pending := by
  unfold cutStep; simp only; split <;> simp

@[simp] theorem dryWalk_frame :
    ((dryWalk s).1).straps = s.straps ∧
    ((dryWalk s).1).store = s.store ∧
    ((dryWalk s).1).conds = s.conds ∧
    ((dryWalk s).1).nest = s.nest ∧
    ((dryWalk s).1).setup = s.setup ∧
    ((dryWalk s).1).locks = s.locks ∧
    ((dryWalk s).1).walking = s.walking ∧
    ((dryWalk s).1).seq = s.seq ∧
    ((dryWalk s).1).gap = s.gap ∧
    ((dryWalk s).1).gen = s.gen ∧
    ((dryWalk s).1).thr = s.thr ∧
    ((dryWalk s).1).filters = s.filters ∧
    ((dryWalk s).1).coord = s.coord ∧
    ((dryWalk s).1).port = s.port ∧
    ((dryWalk s).1).link = s.link ∧
    ((dryWalk s).1).reports = s.reports ∧
    ((dryWalk s).1).now = s.now ∧
    ((dryWalk s).1).raised = s.raised ∧
    ((dryWalk s).1).pending = s.pending := by
  simp [dryWalk]

@[simp] theorem seekWalk_frame (p : PathPoint) :
    ((seekWalk p s).1).straps = s.straps ∧
    ((seekWalk p s).1).store = s.store ∧
    ((seekWalk p s).1).conds = s.conds ∧
    ((seekWalk p s).1).nest = s.nest ∧
    ((seekWalk p s).1).setup = s.setup ∧
    ((seekWalk p s).1).locks = s.locks ∧
    ((seekWalk p s).1).walking = s.walking ∧
    ((seekWalk p s).1).gap = s.gap ∧
    ((seekWalk p s).1).gen = s.gen ∧
    ((seekWalk p s).1).thr = s.thr ∧
    ((seekWalk p s).1).filters = s.filters ∧
    ((seekWalk p s).1).coord = s.coord ∧
    ((seekWalk p s).1).port = s.port ∧
    ((seekWalk p s).1).link = s.link ∧
    ((seekWalk p s).1).reports = s.reports ∧
    ((seekWalk p s).1).now = s.now ∧
    ((seekWalk p s).1).raised = s.raised ∧
    ((seekWalk p s).1).pending = s.pending := by
  unfold seekWalk; simp only; split <;> simp

@[simp] theorem walkPath_frame :
    ((walkPath s).1).straps = s.straps ∧
    ((walkPath s).1).store = s.store ∧
    ((walkPath s).1).conds = s.conds ∧
    ((walkPath s).1).nest = s.nest ∧
    ((walkPath s).1).setup = s.setup ∧
    ((walkPath s).1).locks = s.locks ∧
    ((walkPath s).1).walking = s.walking ∧
    ((walkPath s).1).seq = s.seq ∧
    ((walkPath s).1).gap = s.gap ∧
    ((walkPath s).1).gen = s.gen ∧
    ((walkPath s).1).thr = s.thr ∧
    ((walkPath s).1).filters = s.filters ∧
    ((walkPath s).1).coord = s.coord ∧
    ((walkPath s).1).port = s.port ∧
    ((walkPath s).1).link = s.link ∧
    ((walkPath s).1).reports = s.reports ∧
    ((walkPath s).1).now = s.now ∧
    ((walkPath s).1).raised = s.raised ∧
    ((walkPath s).1).pending = s.pending := by
  unfold walkPath; split
  · simp
  · split
    · simp
    · split <;> simp

@[simp] theorem advancePath_frame :
    ((advancePath s).1).straps = s.straps ∧
    ((advancePath s).1).store = s.store ∧
    ((advancePath s).1).conds = s.conds ∧
    ((advancePath s).1).nest = s.nest ∧
    ((advancePath s).1).setup = s.setup ∧
    ((advancePath s).1).locks = s.locks ∧
    ((advancePath s).1).walking = s.walking ∧
    ((advancePath s).1).gap = s.gap ∧
    ((advancePath s).1).gen = s.gen ∧
    ((advancePath s).1).thr = s.thr ∧
    ((advancePath s).1).filters = s.filters ∧
    ((advancePath s).1).coord = s.coord ∧
    ((advancePath s).1).port = s.port ∧
    ((advancePath s).1).link = s.link ∧
    ((advancePath s).1).reports = s.reports ∧
    ((advancePath s).1).now = s.now ∧
    ((advancePath s).1).raised = s.raised ∧
    ((advancePath s).1).pending = s.pending := by
  unfold advancePath; split
  · simp
  · simp only [targetCheck_fst]; repeat' split
    all_goals simp

@[simp] theorem motion_frame :
    ((motion s).1).straps = s.straps ∧
    ((motion s).1).store = s.store ∧
    ((motion s).1).conds = s.conds ∧
    ((motion s).1).nest = s.nest ∧
    ((motion s).1).setup = s.setup ∧
    ((motion s).1).locks = s.locks ∧
    ((motion s).1).walking = s.walking ∧
    ((motion s).1).gap = s.gap ∧
    ((motion s).1).gen = s.gen ∧
    ((motion s).1).thr = s.thr ∧
    ((motion s).1).filters = s.filters ∧
    ((motion s).1).coord = s.coord ∧
    ((motion s).1).port = s.port ∧
    ((motion s).1).link = s.link ∧
    ((motion s).1).reports = s.reports ∧
    ((motion s).1).now = s.now ∧
    ((motion s).1).raised = s.raised ∧
    ((motion s).1).pending = s.pending := by
  unfold motion; split
  · simp
  · split <;> simp

@[simp] theorem creditPart_frame (b m : Bool) :
    (creditPart b m s).straps = s.straps ∧
    (creditPart b m s).store = s.store ∧
    (creditPart b m s).conds = s.conds ∧
    (creditPart b m s).setup = s.setup ∧
    (creditPart b m s).locks = s.locks ∧
    (creditPart b m s).walking = s.walking ∧
    (creditPart b m s).seq = s.seq ∧
    (creditPart b m s).fetch = s.fetch ∧
    (creditPart b m s).queue = s.queue ∧
    (creditPart b m s).history = s.history ∧
    (creditPart b m s).gap = s.gap ∧
    (creditPart b m s).gen = s.gen ∧
    (creditPart b m s).exe = s.exe ∧
    (creditPart b m s).thr = s.thr ∧
    (creditPart b m s).filters = s.filters ∧
    (creditPart b m s).coord = s.coord ∧
    (creditPart b m s).port = s.port ∧
    (creditPart b m s).link = s.link ∧
    (creditPart b m s).reports = s.reports ∧
    (creditPart b m s).now = s.now ∧
    (creditPart b m s).raised = s.raised ∧
    (creditPart b m s).pending = s.pending := by
  unfold creditPart; split <;> simp

@[simp] theorem periodReport_frame :
    (periodReport s).straps = s.straps ∧
    (periodReport s).store = s.store ∧
    (periodReport s).conds = s.conds ∧
    (periodReport s).nest = s.nest ∧
    (periodReport s).setup = s.setup ∧
    (periodReport s).locks = s.locks ∧
    (periodReport s).walking = s.walking ∧
    (periodReport s).seq = s.seq ∧
    (periodReport s).fetch = s.fetch ∧
    (periodReport s).queue = s.queue ∧
    (periodReport s).history = s.history ∧
    (periodReport s).exe = s.exe ∧
    (periodReport s).thr = s.thr ∧
    (periodReport s).filters = s.filters ∧
    (periodReport s).coord = s.coord ∧
    (periodReport s).port = s.port ∧
    (periodReport s).link = s.link ∧
    (periodReport s).reports = s.reports ∧
    (periodReport s).now = s.now ∧
    (periodReport s).raised = s.raised ∧
    (periodReport s).pending = s.pending := by
  simp [periodReport]

@[simp] theorem handOver_frame (h : Option HandOver) :
    (handOver h s).straps = s.straps ∧
    (handOver h s).store = s.store ∧
    (handOver h s).conds = s.conds ∧
    (handOver h s).setup = s.setup ∧
    (handOver h s).gap = s.gap ∧
    (handOver h s).gen = s.gen ∧
    (handOver h s).port = s.port ∧
    (handOver h s).now = s.now ∧
    (handOver h s).pending = s.pending := by
  unfold handOver; split <;> simp

@[simp] theorem handOver_coord (h : Option HandOver) :
    (handOver h s).coord.peers = s.coord.peers ∧
    (handOver h s).coord.drawn = s.coord.drawn ∧
    (handOver h s).coord.mode = s.coord.mode ∧
    (handOver h s).coord.cmax = s.coord.cmax ∧
    (handOver h s).coord.cmaxSeen = s.coord.cmaxSeen ∧
    (handOver h s).coord.ap = s.coord.ap ∧
    (handOver h s).coord.af = s.coord.af := by
  unfold handOver; split <;> simp

@[simp] theorem servoExpiry_frame :
    (servoExpiry s).straps = s.straps ∧
    (servoExpiry s).store = s.store ∧
    (servoExpiry s).conds = s.conds ∧
    (servoExpiry s).setup = s.setup ∧
    (servoExpiry s).pending = s.pending := by
  simp [servoExpiry]

end Sys2Proof.Machine
end

