-- ==== Sys2Proof/Laws/Settle.lean ====
section
/-! SUPPORT. What the end of an event does: `derive` settles every state, a settled state stands, and `finish`
of a calm state is `conclude`: `derive` and the due notice. What the return to normal line mode can do. -/

namespace Sys2Proof.Machine

variable (s : State)

/-! ### What the following values read -/

theorem dropCondition_gen :
    (dropCondition s).gen = { s.gen with cond := (dropCondition s).gen.cond, dry := (dropCondition s).gen.dry } := by
  unfold dropCondition; split <;> simp

theorem dropCondition_cases :
    ((dropCondition s).gen.cond = s.gen.cond ∧ (dropCondition s).gen.dry = s.gen.dry) ∨
      ((dropCondition s).gen.cond = none ∧ (dropCondition s).gen.dry = none) := by
  unfold dropCondition; split <;> simp

theorem dropCondition_absent
    (h : (dropCondition s).gen.cond ≠ none ∨ (dropCondition s).gen.dry ≠ none) :
    (s.seq.station = .run ∨ s.seq.station = .held) ∧
      (isCutting s.seq.activity = true ∨ s.seq.activity = some .recovering) := by
  unfold dropCondition at h
  split at h
  · assumption
  · simp at h

/-- `derive` in its parts. -/
theorem derive_eq :
    derive s = switchGenerator (recomputeLevels (recomputeAllowances (dropCondition s))) := rfl

theorem derive_coord_eq :
    (derive s).coord = { s.coord with ap := s.powerAllowance, af := s.flushAllowance } := by
  simp [derive, recomputeAllowances, State.powerAllowance, State.flushAllowance, State.sharers,
    State.freshPeers, State.peer]

theorem derive_gen :
    (derive s).gen =
      { s.gen with level := min s.gen.level (derive s).gen.target, target := (derive s).gen.target,
                   cond := (derive s).gen.cond, dry := (derive s).gen.dry, on := (derive s).gen.on,
                   draw := (derive s).gen.draw, flush := (derive s).gen.flush,
                   offTime := (derive s).gen.offTime } := by
  have h := dropCondition_gen s
  have h1 : (dropCondition s).gen.level = s.gen.level := by rw [h]
  have h2 : (dropCondition s).gen.stretch = s.gen.stretch := by rw [h]
  have h3 : (dropCondition s).gen.arcFree = s.gen.arcFree := by rw [h]
  have h4 : (dropCondition s).gen.total = s.gen.total := by rw [h]
  simp [derive, switchGenerator, recomputeLevels, recomputeAllowances, h1, h2, h3, h4]

theorem derive_gap : (derive s).gap = { s.gap with mark := s.gap.mark || (derive s).gen.on } := by
  simp [derive, switchGenerator]

theorem derive_cases :
    ((derive s).gen.cond = s.gen.cond ∧ (derive s).gen.dry = s.gen.dry) ∨
      ((derive s).gen.cond = none ∧ (derive s).gen.dry = none) := by
  have h := dropCondition_cases s
  simpa [derive, switchGenerator, recomputeLevels, recomputeAllowances] using h

/-- Everything else stands. -/
theorem derive_rest :
    derive s = { s with gen := (derive s).gen, gap := (derive s).gap, coord := (derive s).coord } := by
  unfold derive switchGenerator recomputeLevels recomputeAllowances dropCondition
  split <;> rfl

/-- The allowances read the straps, the peer table and the line mode. -/
theorem powerAllowance_congr {s t : State} (h1 : t.straps = s.straps) (h2 : t.coord.peers = s.coord.peers)
    (h3 : t.coord.mode = s.coord.mode) : t.powerAllowance = s.powerAllowance := by
  simp only [State.powerAllowance, State.sharers, State.freshPeers, State.peer, h1, h2, h3]

theorem flushAllowance_congr {s t : State} (h1 : t.straps = s.straps) (h2 : t.coord.peers = s.coord.peers)
    (h3 : t.coord.mode = s.coord.mode) : t.flushAllowance = s.flushAllowance := by
  simp only [State.flushAllowance, State.sharers, State.freshPeers, State.peer, h1, h2, h3]

/-- L_target reads the station, the activity, the condition in use with its entry, and the allowances. -/
theorem levelTarget_congr {s t : State} (h1 : t.seq = s.seq) (h2 : t.gen.cond = s.gen.cond)
    (h3 : t.conds = s.conds) (h4 : t.coord.ap = s.coord.ap) (h5 : t.coord.af = s.coord.af) :
    t.levelTarget = s.levelTarget := by
  simp only [State.levelTarget, State.cuttingNow, State.condition, h1, h2, h3, h4, h5]

theorem flushTarget_congr {s t : State} (h1 : t.seq = s.seq) (h2 : t.gen.cond = s.gen.cond)
    (h3 : t.conds = s.conds) (h5 : t.coord.af = s.coord.af) : t.flushTarget = s.flushTarget := by
  simp only [State.flushTarget, State.cuttingNow, State.condition, h1, h2, h3, h5]

theorem drawTarget_congr {s t : State} (h1 : t.seq = s.seq) (h2 : t.thr.phase = s.thr.phase)
    (h3 : t.levelTarget = s.levelTarget) : t.drawTarget = s.drawTarget := by
  have hc : t.cuttingNow = s.cuttingNow := by simp only [State.cuttingNow, h1]
  have hh : t.heavy = s.heavy := by simp only [State.heavy, h2]
  rw [State.drawTarget, State.drawTarget, hc, hh, h3]

theorem generatorAllowed_congr {s t : State} (h1 : t.seq = s.seq) (h2 : t.thr.wire = s.thr.wire)
    (h3 : t.gen.dry = s.gen.dry) (h4 : t.gen.level = s.gen.level) :
    t.generatorAllowed = s.generatorAllowed := by
  simp only [State.generatorAllowed, h1, h2, h3, h4]

theorem recomputeLevels_rest : recomputeLevels s = { s with gen := (recomputeLevels s).gen } := rfl

theorem recomputeLevels_same :
    (recomputeLevels s).gen.cond = s.gen.cond ∧ (recomputeLevels s).gen.dry = s.gen.dry ∧
      (recomputeLevels s).gen.stretch = s.gen.stretch := ⟨rfl, rfl, rfl⟩

/-- Levels, draw, flush and off-time as a state with them recomputed has them. -/
theorem recomputeLevels_settled :
    (recomputeLevels s).gen.target = (recomputeLevels s).levelTarget ∧
      (recomputeLevels s).gen.level ≤ (recomputeLevels s).gen.target ∧
      (recomputeLevels s).gen.draw = (recomputeLevels s).drawTarget ∧
      (recomputeLevels s).gen.flush = (recomputeLevels s).flushTarget ∧
      (recomputeLevels s).gen.offTime = (recomputeLevels s).offTimeOutput := by
  have ht : (recomputeLevels s).levelTarget = s.levelTarget := levelTarget_congr rfl rfl rfl rfl rfl
  have hd : (recomputeLevels s).drawTarget = s.drawTarget := drawTarget_congr rfl rfl ht
  have hf : (recomputeLevels s).flushTarget = s.flushTarget := flushTarget_congr rfl rfl rfl rfl
  refine ⟨ht.symm, Nat.min_le_right _ _, hd.symm, hf.symm, ?_⟩
  show s.offTimeOutput = (recomputeLevels s).offTimeOutput
  simp only [State.offTimeOutput, recomputeLevels, State.modGen, State.condition]
  split <;> simp_all

/-- Switching the generator changes no level, draw, flush or off-time. -/
theorem switchGenerator_settled (r : State)
    (h : r.gen.target = r.levelTarget ∧ r.gen.level ≤ r.gen.target ∧ r.gen.draw = r.drawTarget ∧
      r.gen.flush = r.flushTarget ∧ r.gen.offTime = r.offTimeOutput) :
    let t := switchGenerator r
    t.gen.target = t.levelTarget ∧ t.gen.level ≤ t.gen.target ∧ t.gen.draw = t.drawTarget ∧
      t.gen.flush = t.flushTarget ∧ t.gen.on = t.generatorAllowed ∧ t.gen.offTime = t.offTimeOutput := by
  have ht : (switchGenerator r).levelTarget = r.levelTarget := levelTarget_congr rfl rfl rfl rfl rfl
  have hd : (switchGenerator r).drawTarget = r.drawTarget := drawTarget_congr rfl rfl ht
  have hf : (switchGenerator r).flushTarget = r.flushTarget := flushTarget_congr rfl rfl rfl rfl
  exact ⟨h.1.trans ht.symm, h.2.1, h.2.2.1.trans hd.symm, h.2.2.2.1.trans hf.symm, rfl, h.2.2.2.2⟩

/-- `derive` settles any state. -/
theorem derive_settled : (derive s).settled := by
  have hr := derive_rest s
  have hseq : (derive s).seq = s.seq := by rw [hr]
  have hc := derive_coord_eq s
  have hstraps : (derive s).straps = s.straps := by rw [hr]
  have hl := switchGenerator_settled _
    (recomputeLevels_settled (recomputeAllowances (dropCondition s)))
  rw [← derive_eq] at hl
  obtain ⟨h3, h4, h5, h6, h7, h8⟩ := hl
  refine ⟨?_, ?_, h3, h4, h5, h6, h7, h8, ?_⟩
  · rw [powerAllowance_congr (s := s) hstraps (by rw [hc]) (by rw [hc]), hc]
  · rw [flushAllowance_congr (s := s) hstraps (by rw [hc]) (by rw [hc]), hc]
  · intro h
    rw [hseq]
    exact dropCondition_absent s (by
      simpa [derive, switchGenerator, recomputeLevels, recomputeAllowances] using h)

theorem dropCondition_of_settled (h : s.settled) : dropCondition s = s := by
  obtain ⟨-, -, -, -, -, -, -, -, h9⟩ := h
  unfold dropCondition
  split
  · rfl
  · rename_i hn
    have h1 : s.gen.cond = none := Classical.byContradiction fun hc => hn (h9 (.inl hc))
    have h2 : s.gen.dry = none := Classical.byContradiction fun hc => hn (h9 (.inr hc))
    have hg : { s.gen with cond := none, dry := none } = s.gen := by rw [← h1, ← h2]
    simp only [State.modGen, hg]

/-- A settled state whose asserted enable output has marked the period stands. -/
theorem derive_of_settled (h : s.settled) (hm : (s.gap.mark || s.gen.on) = s.gap.mark) : derive s = s := by
  have hd := dropCondition_of_settled s h
  obtain ⟨h1, h2, h3, h4, h5, h6, h7, h8, -⟩ := h
  have ha : recomputeAllowances s = s := by simp only [recomputeAllowances, State.modCoord, ← h1, ← h2]
  have hl : recomputeLevels s = s := by
    simp only [recomputeLevels, State.modGen, ← h3, ← h5, ← h6, ← h8, Nat.min_eq_left h4]
  simp only [derive, hd, ha, hl, switchGenerator, State.modGen, State.modGap, ← h7, hm]

theorem derive_mark : ((derive s).gap.mark || (derive s).gen.on) = (derive s).gap.mark := by
  rw [derive_gap]; simp

/-- `derive` twice is `derive` once. -/
theorem derive_derive : derive (derive s) = derive s :=
  derive_of_settled _ (derive_settled s) (derive_mark s)

theorem annealTest_calm (h : s.thr.phase ≠ .annealWait) : annealTest s = s := by simp [annealTest, h]

theorem port_eta (p : CellPort) (h : s.port = p) : s = { s with port := p } := by subst h; rfl

theorem setDue_rest : setDue s = { s with port := (setDue s).port } := rfl

/-- What a notice would say does not rest on the port. -/
theorem noticeChanged_port (b : State) (p : CellPort) :
    noticeChanged b { s with port := p } = noticeChanged b s := rfl

theorem settled_port (p : CellPort) : ({ s with port := p } : State).settled ↔ s.settled := Iff.rfl

theorem announce_rest (b : State) : announce b s = { s with port := (announce b s).port } := by
  unfold announce; split
  · exact setDue_rest s
  · rfl

/-- A concluded state is settled, and its asserted enable output has marked the period. -/
theorem conclude_settled (b : State) : (conclude b s).settled := by
  rw [conclude, announce_rest]; exact derive_settled s

theorem conclude_mark (b : State) :
    ((conclude b s).gap.mark || (conclude b s).gen.on) = (conclude b s).gap.mark := by
  rw [conclude, announce_rest]; exact derive_mark s

theorem announce_self : announce s s = s := by simp [announce, noticeChanged]

/-- A concluded state that nothing has changed stands. -/
theorem conclude_conclude (b : State) : conclude (conclude b s) (conclude b s) = conclude b s := by
  rw [conclude, derive_of_settled _ (conclude_settled s b) (conclude_mark s b), announce_self]

/-- No operation of `conclude` adds a mismatch event or moves Threader Control. -/
theorem conclude_calm (b : State) (h : s.calm) : (conclude b s).calm := by
  rw [conclude, announce_rest, derive_rest]; exact h

theorem quiesce_calm (b : State) (h : s.raised = []) : quiesce b s = conclude b s := by
  have hr : (conclude b s).raised = [] := by rw [conclude, announce_rest, derive_rest]; exact h
  simp [quiesce, drain, hr]

/-- The end of an event that left a calm state. -/
theorem finish_calm (b : State) (h : s.calm) : finish b s = conclude b s := by
  have hc := conclude_calm s b h
  simp only [finish, quiesce_calm s b h.1, annealTest_calm _ hc.2, quiesce_calm _ _ hc.1,
    conclude_conclude]

/-- What an event ends with. -/
theorem finish_settles (b : State) (h : s.calm) : State.settles b s (finish b s) := by
  rw [finish_calm s b h, conclude]
  have key : announce b (derive s) =
      { derive s with port := if noticeChanged b (derive s) then (setDue s).port else s.port } := by
    unfold announce
    have hp : (derive s).port = s.port := by rw [derive_rest]
    split
    · simp [setDue, State.modPort]
    · exact port_eta _ _ hp
  have hr := derive_rest s
  rw [key]
  refine ⟨?_, ?_, ?_, ?_, ?_, ?_, ?_, ?_⟩
  · show ({ derive s with port := _ } : State) = _
    rw [hr]
  · exact derive_settled s
  · exact derive_gen s
  · exact (derive_cases s).imp And.left And.left
  · exact (derive_cases s).imp And.right And.right
  · exact derive_gap s
  · show (derive s).coord = { s.coord with ap := (derive s).coord.ap, af := (derive s).coord.af }
    rw [derive_coord_eq]
  · rfl

/-! ### Degraded line mode ends (R154) -/

/-- Everything that the return to normal line mode can do. -/
theorem returnLine_cases :
    (s.coord.mode = .normal ∧ returnLine s = s) ∨
    (s.coord.mode = .degraded ∧
      returnLine s =
        { s with
          reports := (queueReport .lineRestored none none s.port.collisions s).reports
          coord := { s.coord with
            mode := .normal
            ap := ({ s with coord := { s.coord with mode := .normal } } : State).powerAllowance
            af := ({ s with coord := { s.coord with mode := .normal } } : State).flushAllowance } }) := by
  cases h : s.coord.mode
  · exact .inl ⟨rfl, by simp [returnLine, h]⟩
  · refine .inr ⟨rfl, ?_⟩
    rw [returnLine, if_pos h]
    rfl

end Sys2Proof.Machine
end

