-- ==== Sys2Proof/Laws/Store.lean ====
section
/-! SUPPORT. The laws of the Path Store: reading after writing, and the canonical form kept. -/

namespace Sys2Proof.Machine

theorem storeWfFrom_cons {lo x : Nat} {v : Byte} {rest : List Host.Cell} :
    storeWfFrom lo ((x, v) :: rest) = true ↔
      lo ≤ x ∧ x < storeBytes ∧ v ≠ 0 ∧ storeWfFrom (x + 1) rest = true := by
  simp [storeWfFrom, and_assoc]

/-- A lower bound may be lowered. -/
theorem storeWfFrom_mono {lo hi : Nat} (h : lo ≤ hi) :
    ∀ {m : List Host.Cell}, storeWfFrom hi m = true → storeWfFrom lo m = true
  | [], _ => rfl
  | (x, v) :: rest, hm => by
    rw [storeWfFrom_cons] at *
    exact ⟨by omega, hm.2⟩

/-- An address below the bound reads 0. -/
theorem storeRead_below {lo a : Nat} (ha : a < lo) :
    ∀ {m : List Host.Cell}, storeWfFrom lo m = true → storeRead m a = 0
  | [], _ => rfl
  | (x, v) :: rest, hm => by
    rw [storeWfFrom_cons] at hm
    rw [storeRead, if_neg (by omega)]
    exact storeRead_below (by omega) hm.2.2.2

/-- Reading after a write of one byte. -/
theorem storeRead_storeWrite {lo a x : Nat} {b : Byte} :
    ∀ {m : List Host.Cell}, storeWfFrom lo m = true →
      storeRead (storeWrite m a b) x = if x = a then b else storeRead m x
  | [], _ => by
    unfold storeWrite
    split
    · rename_i hb; simp [storeRead, hb]
    · by_cases hx : x = a
      · simp [storeRead, hx]
      · simp [storeRead, hx, Ne.symm hx]
  | (y, v) :: rest, hm => by
    have h := storeWfFrom_cons.1 hm
    have ih := storeRead_storeWrite (a := a) (x := x) (b := b) h.2.2.2
    unfold storeWrite
    split
    · rename_i hay
      have h0 : storeRead ((y, v) :: rest) a = 0 := storeRead_below hay (lo := y) (by
        rw [storeWfFrom_cons]; exact ⟨Nat.le_refl _, h.2⟩)
      split
      · rename_i hb
        split
        · rename_i hx; rw [hx, h0, hb]
        · rfl
      · rw [storeRead]
        by_cases hx : x = a
        · simp [hx]
        · rw [if_neg (fun h => hx h.symm), if_neg hx]
    · split
      · rename_i hay
        subst hay
        split
        · rename_i hb
          split
          · rename_i hx; rw [hx, storeRead_below (Nat.lt_succ_self _) h.2.2.2, hb]
          · rename_i hx; rw [storeRead, if_neg (fun h => hx h.symm)]
        · rw [storeRead, storeRead]
          by_cases hx : x = a
          · simp [hx]
          · rw [if_neg (Ne.symm hx), if_neg hx, if_neg (Ne.symm hx)]
      · rw [storeRead, ih, storeRead]
        split
        · rename_i hx; subst hx
          rw [if_neg (by omega)]
        · rfl

/-- A write inside the store keeps the canonical form. -/
theorem storeWfFrom_storeWrite {a : Nat} {b : Byte} (ha : a < storeBytes) :
    ∀ {lo : Nat} {m : List Host.Cell}, lo ≤ a → storeWfFrom lo m = true → storeWfFrom lo (storeWrite m a b) = true
  | lo, [], hlo, _ => by
    unfold storeWrite
    split
    · rfl
    · rename_i hb; rw [storeWfFrom_cons]; exact ⟨hlo, ha, hb, rfl⟩
  | lo, (y, v) :: rest, hlo, hm => by
    have h := storeWfFrom_cons.1 hm
    unfold storeWrite
    split
    · rename_i hay
      split
      · exact hm
      · rename_i hb
        rw [storeWfFrom_cons, storeWfFrom_cons]
        exact ⟨hlo, ha, hb, by omega, h.2⟩
    · split
      · rename_i hay
        split
        · exact storeWfFrom_mono (by omega) h.2.2.2
        · rename_i hb; rw [storeWfFrom_cons]; exact ⟨hlo, ha, hb, hay ▸ h.2.2.2⟩
      · rw [storeWfFrom_cons]
        exact ⟨h.1, h.2.1, h.2.2.1, storeWfFrom_storeWrite ha (by omega) h.2.2.2⟩

theorem Store.wf_storeWrite {m : List Host.Cell} {a : Nat} {b : Byte} (ha : a < storeBytes)
    (hm : Store.wf m = true) : Store.wf (storeWrite m a b) = true :=
  storeWfFrom_storeWrite ha (Nat.zero_le _) hm

/-- A write of consecutive bytes inside the store keeps the canonical form. -/
theorem Store.wf_storeWriteAll :
    ∀ {bs : List Byte} {m : List Host.Cell} {a : Nat}, a + bs.length ≤ storeBytes →
      Store.wf m = true → Store.wf (storeWriteAll m a bs) = true
  | [], _, _, _, hm => hm
  | _ :: bs, _, _, ha, hm => by
    simp only [List.length_cons] at ha
    exact Store.wf_storeWriteAll (bs := bs) (by omega) (Store.wf_storeWrite (by omega) hm)

/-- Reading after a write of consecutive bytes: the byte written there, or what stood before. -/
theorem storeRead_storeWriteAll {x : Nat} :
    ∀ {bs : List Byte} {m : List Host.Cell} {a : Nat}, a + bs.length ≤ storeBytes → Store.wf m = true →
      storeRead (storeWriteAll m a bs) x = if a ≤ x ∧ x < a + bs.length then bs.getD (x - a) 0 else storeRead m x
  | [], m, a, _, _ => by
    rw [storeWriteAll, if_neg]
    simp only [List.length_nil]; omega
  | b :: bs, m, a, ha, hm => by
    simp only [List.length_cons] at ha
    rw [storeWriteAll, storeRead_storeWriteAll (bs := bs) (by omega) (Store.wf_storeWrite (by omega) hm),
      storeRead_storeWrite hm, List.length_cons]
    by_cases hx : x = a
    · subst hx; rw [if_neg (by omega), if_pos rfl, if_pos (by omega), Nat.sub_self, List.getD_cons_zero]
    · by_cases h2 : a + 1 ≤ x ∧ x < a + 1 + bs.length
      · rw [if_pos h2, if_pos (by omega)]
        rw [show x - a = (x - (a + 1)) + 1 by omega, List.getD_cons_succ]
      · rw [if_neg h2, if_neg hx, if_neg (by omega)]

/-- An empty store is in canonical form. -/
theorem Store.wf_nil : Store.wf [] = true := rfl

end Sys2Proof.Machine
end

