-- ==== Sys2Proof/WellFormed.lean ====
section
/-! DEFINITION. The well-formed commands: a frame that arrives whole is one its port receives whole (R151,
R169). Every other command's operands are in their ranges by their types. -/

namespace Sys2Proof

/-- REQUEST_ARRIVAL carries a good job link frame (R169); NOTICE_ARRIVAL carries a valid notice (R151). -/
def Instr.wellFormed : Instr → Bool
  | .requestArrival frame => (Machine.requestOf frame).isSome
  | .noticeArrival frame => (Machine.noticeOf frame).isSome
  | .powerOn _ _ _ => true
  | .listenTimerExpiry => true
  | .powerWarn => true
  | .jobLinkFrameDiscard => true
  | .jobLinkByteTimeout => true
  | .responseSent => true
  | .unknownRequest => true
  | .setup => true
  | .loadCondition => true
  | .loadPath => true
  | .loadPart => true
  | .clearStore => true
  | .startJob => true
  | .validationWalkEnd => true
  | .hold => true
  | .resume => true
  | .abort => true
  | .skipPart => true
  | .readStatus => true
  | .readPart => true
  | .readPeers => true
  | .readReports => true
  | .resetStation => true
  | .servoPeriodExpiry => true
  | .pulseMeasurement _ _ => true
  | .emission => true
  | .dropInputChange _ _ => true
  | .dropWindowExpiry => true
  | .limitInput _ _ => true
  | .wireLowInput _ _ => true
  | .cutterDone _ _ => true
  | .cutTipTimeout => true
  | .sagBlankExpiry => true
  | .annealExpiry => true
  | .supplySag _ _ => true
  | .jetWaitLimitExpiry => true
  | .contact _ _ => true
  | .feedTimeout => true
  | .tensionOkChange _ _ => true
  | .tensionTimeout => true
  | .tensionCheckExpiry => true
  | .transmitStart _ => true
  | .transmissionComplete => true
  | .collision => true
  | .cellFrameDiscard => true
  | .spacingTimerExpiry => true
  | .lineTimerExpiry => true
  | .refreshTimerExpiry => true
  | .peerExpiry _ => true
  | .settleTimerExpiry => true

end Sys2Proof
end

