-- ==== Sys2Proof/Tests/Slice0.lean ====
section
/-! SUPPORT. Tests: the refusals of WellFormed, worked examples and numbers of the spec, and for each obligation
with hypotheses a state that meets them (`witness_…`, clause by clause). -/

namespace Sys2Proof.Tests

open Sys2Proof.Machine

-- one theorem at a time: many evaluations at once take a thread each
set_option Elab.async false

/-! ### Helpers -/

/-- The state a command answers with, or the state itself where it stops. -/
def after (c : Instr) (s : State) : State :=
  match exec c s with
  | .next t => t
  | .fault _ => s
  | .refused _ => s

/-- Commands one after another. -/
def afterAll (s : State) (l : List Instr) : State := l.foldl (fun t c => after c t) s

/-- A station in a state, with an activity. -/
def at_ (st : Station) (a : Option Activity) : State :=
  State.reset.modSeq fun q => { q with station := st, activity := a, listen := none }

/-- A request in the buffer. -/
def asked (code : Byte) (payload : List Byte) (s : State) : State :=
  s.modLink fun l => { l with buffer := [⟨code, payload⟩] }

/-- Part 7 current, in a part state and stage. -/
def on7 (st : PartState) (g : Stage) (s : State) : State :=
  (modPart 7 (fun r => { r with state := st, stage := g }) s).modSeq fun q => { q with current := some 7 }

/-- Threader Control in a phase of a request, with its timer running. -/
def phased (rq : WireRequest) (p : Phase) (s : State) : State :=
  s.modThr fun t => { t with request := rq, phase := p, timer := some 1, limit := some 3, mode := some .hole }

/-- A line record's 20 bytes. -/
def lineRecord (x y : Int) : List Byte := toBytes 4 1 ++ intBytes x ++ intBytes y ++ toBytes 8 0

/-- A call record's 20 bytes. -/
def callRecord (target reps : Nat) (dx dy : Int) : List Byte :=
  toBytes 4 4 ++ toBytes 2 target ++ toBytes 1 reps ++ toBytes 1 0 ++ intBytes dx ++ intBytes dy ++ toBytes 4 0

/-- A record of one kind and one index byte. -/
def bareRecord (kind index : Nat) : List Byte := toBytes 4 kind ++ toBytes 1 index ++ toBytes 15 0

/-- Records written from an index on. -/
def written (start : Nat) (l : List (List Byte)) (s : State) : State :=
  s.setStore (storeWriteAll s.store (20 * start) l.flatten)

/-- A loaded condition entry. -/
def loaded (c : CondNo) (k : Condition) (s : State) : State :=
  s.setConds (s.conds.set c { k with loaded := true })

/-! ### WellFormed refuses ill-formed commands -/

theorem test_whole_request_frame_wellFormed :
    (Instr.requestArrival (Request.frame ⟨0x06, []⟩)).wellFormed = true := by decide +kernel

theorem test_request_frame_with_a_bad_check_refused :
    (Instr.requestArrival [0xA5, 1, 0, 0x06, 0, 0]).wellFormed = false := by decide +kernel

theorem test_request_frame_of_length_0_refused :
    (Instr.requestArrival [0xA5, 0, 0, 0, 0]).wellFormed = false := by decide +kernel

theorem test_notice_fragment_refused :
    (Instr.noticeArrival [1, 4, 7, 6, 0, 0, 0]).wellFormed = false := by decide +kernel

theorem test_notice_of_station_8_refused :
    (Instr.noticeArrival (Notice.bytes ⟨8, .idle, 0, 0, false, .off, 0⟩)).wellFormed = false := by decide +kernel

/-! ### Formats: check values and layouts worked by hand from R182, R183 and section 11.5 -/

/-- The check value of the CRC-8 of R182 over the ASCII digits 1 to 9. -/
theorem test_crc8_check_value : crc8 [0x31, 0x32, 0x33, 0x34, 0x35, 0x36, 0x37, 0x38, 0x39] = 0xF4 := by
  decide +kernel

/-- The check value of the CRC-16 of R183 over the ASCII digits 1 to 9. -/
theorem test_crc16_check_value : crc16 [0x31, 0x32, 0x33, 0x34, 0x35, 0x36, 0x37, 0x38, 0x39] = 0x29B1 := by
  decide +kernel

/-- Station 3 CUTTING, draw 7, flush 6, heavy clear, CLAIM, stamp 0x0102 (R182). -/
theorem test_notice_layout :
    (Notice.body ⟨3, .cutting, 7, 6, false, .claim, 0x0102⟩) = [3, 4, 7, 6, 2, 2, 1] := by decide +kernel

/-- A LINE to (-1, 256): signed fields least significant byte first (R181). -/
theorem test_line_record_bytes :
    PathRecord.read [1, 0, 0, 0, 0xFF, 0xFF, 0xFF, 0xFF, 0, 1, 0, 0, 0, 0, 0, 0, 0, 0, 0, 0] = .line (-1) 256 := by
  decide +kernel

/-- A CALL of record 400 twice at a step of (6000, 0). -/
theorem test_call_record_bytes :
    PathRecord.read [4, 0, 0, 0, 0x90, 1, 2, 0, 0x70, 0x17, 0, 0, 0, 0, 0, 0, 0, 0, 0, 0] =
      .call 400 2 6000 0 := by decide +kernel

theorem test_unassigned_kind : PathRecord.read (bareRecord 8 0) = .unassigned := by decide +kernel

/-! ### Geometry (R7, R8) -/

theorem test_round_ties_away_from_zero : roundDiv 5 2 = 3 ∧ roundDiv (-5) 2 = -3 ∧ roundDiv 7 3 = 2 := by
  decide +kernel

/-- 3-4-5: 5000 nm. -/
theorem test_line_length : lineLength ⟨1000, 2000⟩ ⟨4000, 6000⟩ = 5000 := by decide +kernel

/-- Record 701 of section 1.4's worked geometry (R8), and the same record written clockwise. -/
theorem test_arc_lengths :
    arcLength false ⟨3000, 0⟩ ⟨7000, 4000⟩ ⟨7000, 0⟩ = 18850 ∧ arcLength true ⟨3000, 0⟩ ⟨7000, 4000⟩ ⟨7000, 0⟩ = 6283 := by
  decide +kernel

/-! ### The validation walk of the example of section 1.8 -/

/-- The records of section 1.8. -/
def store18 : State :=
  written 400 [lineRecord 1 1, bareRecord 6 0, bareRecord 7 0] <|
  written 300 [lineRecord 1 1, callRecord 400 2 0 0, bareRecord 7 0] <|
  written 200 [lineRecord 1 1, toBytes 4 2 ++ toBytes 16 0, bareRecord 7 0] <|
  written 100 [bareRecord 5 2, lineRecord 1 1, callRecord 200 3 0 0, bareRecord 6 0, lineRecord 1 1,
    bareRecord 7 0] <|
  written 50 [lineRecord 1 1, lineRecord 2 2, bareRecord 7 0] <|
  loaded 5 Condition.cleared <| loaded 2 Condition.cleared <|
  modPart 4 (fun r => { r with enabled := true, retain := true, passCount := 2, contour := ⟨some 100, some 300, none⟩,
                               initial := ⟨some 2, some 5, none⟩ }) <|
  modPart 1 (fun r => { r with enabled := true, contour := ⟨some 50, none, none⟩, initial := ⟨some 2, none, none⟩ }) <|
  (at_ .idle none).setSetup ⟨true, 0, 0, 0, 0, 1, 1, 500⟩

theorem test_walk_of_section_1_8_fails :
    (match walkJob store18 with | .error f => some f | .ok _ => none) =
      some ⟨.tabPlacement, some 4, some .second, some 401⟩ := by decide +kernel

theorem test_failed_walk_answers_invalid :
    ((after .validationWalkEnd (asked 0x06 [] { store18 with walking := true })).link.response) =
      some ⟨0x06, .invalid, [4, 2, 0x91, 1, 35]⟩ := by decide +kernel

/-! ### The fetch of section 4.6 -/

/-- The records and the start of section 4.6. -/
def fetch46 : State :=
  startContour 3 .first ⟨2000000, 1000000⟩ none none <|
  written 1300 [lineRecord 0 8000, bareRecord 5 7, lineRecord 3000 8000, lineRecord 3000 5000, lineRecord 6000 5000,
    bareRecord 7 0] <|
  written 1200 [bareRecord 5 4, lineRecord 0 5000, callRecord 1300 4 6000 0, bareRecord 6 0, lineRecord 24000 0,
    lineRecord 0 0, bareRecord 7 0] <|
  modPart 3 (fun r => { r with retain := true, passCount := 2, origin := ⟨2000000, 1000000⟩,
                               contour := ⟨some 1200, some 0, none⟩, initial := ⟨some 4, some 0, none⟩ }) <|
  (at_ .run (some .cutting)).setSetup ⟨true, 0, 3000000, 0, 2000000, 1, 1, 500⟩

theorem test_sixteen_emissions_of_section_4_6 :
    let t := afterAll fetch46 (List.replicate 16 .emission)
    t.fetch.state = .full ∧ t.fetch.position = some 1304 ∧ t.fetch.offset = ⟨18000, 0⟩ ∧
      t.queue.map Entry.length = 5000 :: List.replicate 15 3000 ∧
      (t.queue.getLast?.map Entry.stop) = some ⟨2021000, 1005000⟩ ∧
      t.queue.map Entry.cond = 4 :: 4 :: List.replicate 14 7 := by decide +kernel

theorem test_narrow_window_of_section_4_6 :
    let t := afterAll (fetch46.setSetup ⟨true, 0, 2020000, 0, 2000000, 1, 1, 500⟩) (List.replicate 15 .emission)
    t.fetch.state = .faulted ∧
      (t.queue.getLast?.map fun e => (e.kind, e.ordinal, e.cond, e.stop)) =
        some (.fault .outsideTravel, 14, 7, ⟨2018000, 1008000⟩) := by decide +kernel

theorem test_replayed_pass_of_section_4_6 :
    let s := fetch46.modFetch fun f => { f with target := some ⟨.first, 9, 1200⟩ }
    (afterAll s (List.replicate 11 .emission)).queue.map Entry.dry =
      5000 :: List.replicate 8 3000 ++ [1200, 0] := by decide +kernel

/-! ### The periods of sections 5.5 and 6.8 -/

/-- L_target at 0.0, 4.6 and 5.1 of section 5.5. -/
theorem test_level_formula_of_section_5_5 :
    levelFormula 12 10 8 6 = 7 ∧ levelFormula 12 10 6 6 = 6 ∧ levelFormula 12 10 6 4 = 4 := by decide +kernel

/-- A segment of section 6.8. -/
def seg68 (ordinal length : Nat) (cond : CondNo) : Entry :=
  ⟨.line, ⟨0, 0⟩, ⟨length, 0⟩, none, length, cond, 7, .second, ordinal, 0⟩

/-- The station before expiry A of section 6.8. -/
def period68 : State :=
  ((((loaded 3 ⟨true, 90, 500, 12, 10, 200, 2, 8⟩ (on7 .active .off (at_ .run (some .cutting)))).setQueue
    [seg68 12 600 3, seg68 13 2000 3, seg68 14 1500 5]).setHistory
    [seg68 11 500 3, seg68 10 400 3, seg68 9 300 3, seg68 8 2000 3, seg68 7 1800 3, seg68 6 2200 3]).modExe
    fun e => { e with task := .path, progress := 560, front := some ⟨.second, 12, 560⟩ }).modGen
    fun g => { g with level := 7, target := 7, cond := some 3, dry := some false }

/-- An expiry with the capture of n = 40, sh = 3 and Vm = 120, and one with n = 36 and sh = 9; L = 7 stands. -/
def expiry (short : Bool) (s : State) : State :=
  let c : Capture := { Capture.blank with normal := if short then 27 else 37, short := if short then 9 else 3,
                                          mean := 120 }
  (motion (s.modGap fun g => { g with last := c })).1

/-- Cursor, progress, rd and stuck count. -/
def where_ (s : State) : Nat × Nat × Nat × Nat := (s.exe.cursor, s.exe.progress, s.exe.rd, s.exe.stuck)

/-- Expiry A: 58 nm, 18 of them carried into ordinal 13. -/
theorem test_expiry_A_of_section_6_8 :
    where_ (expiry false period68) = (0, 18, 0, 0) ∧
      (expiry false period68).exe.front = some ⟨.second, 13, 18⟩ := by decide +kernel

/-- Expiries B, C3, C9 and D of section 6.8. -/
theorem test_retreats_of_section_6_8 :
    let a := expiry false period68
    let r := fun n => (List.replicate n ()).foldl (fun t _ => expiry true t) a
    where_ (r 1) = (1, 418, 200, 0) ∧ where_ (r 4) = (2, 318, 800, 0) ∧ where_ (r 10) = (5, 2000, 1818, 0) ∧
      where_ (r 11) = (5, 1818, 2000, 1) := by decide +kernel

/-- Expiries E and F of section 6.8. -/
theorem test_readvance_of_section_6_8 :
    let d := (List.replicate 11 ()).foldl (fun t _ => expiry true t) (expiry false period68)
    where_ (expiry false d) = (5, 1934, 1884, 0) ∧ where_ (expiry false (expiry false d)) = (4, 50, 1768, 0) := by
  decide +kernel

/-- A capture of three burning pulses and one open pulse: the mean of 100, 130 and 130 is 120 (R83). -/
theorem test_capture_means :
    let s := afterAll (at_ .idle none)
      [.pulseMeasurement 9 100, .pulseMeasurement 9 130, .pulseMeasurement 4 130, .pulseMeasurement 255 228,
       .pulseMeasurement 9 29]
    s.gap.capture.mean = 120 ∧ s.gap.capture.openReading = 228 ∧ s.gap.capture.normal = 2 ∧ s.gap.capture.arc = 1 ∧
      s.gap.capture.short = 1 := by decide +kernel

/-! ### The cell of sections 9.6 and 9.7 -/

/-- Station 7 of section 9.6 (budget codes 4 and 3: 32 and 24), with the entries of stations 0 and 3. -/
def station7 (p q : Peer) : State :=
  setPeer 3 (some q) (setPeer 0 (some p) { at_ .run (some .threading) with straps := ⟨7, 4, 3⟩ })

theorem test_allowances_of_section_9_6 :
    let s := station7 ⟨0, .cutting, 15, 8, false, .off, 0⟩ ⟨0, .cutting, 10, 8, false, .off, 0⟩
    s.powerAllowance = 10 ∧ s.flushAllowance = 8 := by decide +kernel

/-- Station 3 halts and station 0 has lowered to 12. -/
theorem test_allowances_after_the_halt_of_section_9_6 :
    let s := station7 ⟨0, .cutting, 12, 8, false, .off, 0⟩ ⟨0, .halted, 0, 0, false, .off, 0⟩
    s.powerAllowance = 15 ∧ s.flushAllowance = 15 := by decide +kernel

/-- Equal stamps go to the lower station, and 42 precedes 43 (section 9.7); 65,535 precedes 0 (R162). -/
theorem test_claims_of_section_9_7 :
    claimPrecedes 42 2 42 5 = true ∧ claimPrecedes 42 5 42 2 = false ∧ claimPrecedes 42 5 43 6 = true ∧
      stampPrecedes 65535 0 = true ∧ stampPrecedes 0 32768 = false := by decide +kernel

/-- Station 5 at 316.4 of section 9.7: PEER_FOUND, the jet yielded to station 2, JET_CONFLICT with peer 2 and stamp
42. -/
theorem test_conflict_of_section_9_7 :
    let s := phased .thread .feed { at_ .run (some .threading) with straps := ⟨5, 0, 0⟩ }
    let u := (s.modThr fun t => { t with valve := true, feed := true }).modCoord fun c =>
      { c with jet := .holding, stamp := 42, cmax := 43, cmaxSeen := true }
    let t := after (.noticeArrival (Notice.bytes ⟨2, .threading, 0, 0, false, .hold, 42⟩)) u
    t.coord.jet = .waiting ∧ t.thr.valve = false ∧ t.thr.phase = .jetClaim ∧
      t.reports.items.map (fun r => (r.kind, r.detail)) = [(.peerFound, 2), (.jetConflict, 2 + 65536 * 42)] := by
  decide +kernel

/-! ### A run from reset: how a command comes to run (log 6, 32) -/

theorem test_step_takes_the_front_command :
    step (State.reset.setPending [.listenTimerExpiry, .powerWarn]) =
      exec .listenTimerExpiry (State.reset.setPending [.powerWarn]) := rfl

theorem test_listen_ends_in_idle : (after .listenTimerExpiry State.reset).seq.station = .idle := by decide +kernel

/-- A HOLD request in its frame, taken in IDLE: REFUSED_STATE (R171). -/
theorem test_hold_in_idle_is_refused :
    (afterAll (at_ .idle none) [.requestArrival (Request.frame ⟨0x07, []⟩), .hold]).link.response =
      some ⟨0x07, .refusedState, []⟩ := by decide +kernel

/-! ### Transient states inside one command -/

/-- A sag while CUTTER_DONE stands asserted goes ANNEAL, CUT_TIP, ANNEAL_WAIT in one command, and leaving ANNEAL has
made a notice due (R124, R135). -/
theorem test_sag_with_cutter_done_leaves_a_notice_due :
    let s := (phased .thread .anneal (at_ .run (some .threading))).modPort fun p => { p with tx := .quiet, due := false }
    let t := after (.supplySag .asserted .asserted) <|
      modFilter .cutterDone (fun _ => Filter.steady .asserted .asserted) (s.modGen fun g => { g with draw := 6 })
    t.thr.phase = .annealWait ∧ t.gen.draw = 6 ∧ t.port.due = true ∧ t.port.tx = .ready := by decide +kernel

/-- HOLD right after a pass start: the next expiry, in HELD, sets the progress to the front (R27, R117). -/
theorem test_held_expiry_takes_the_front_of_a_new_pass :
    let s := modPart 7 (fun r => { r with progress := some ⟨.first, 14, 0⟩ }) <|
      (on7 .active .off (at_ .held (some .cutting))).modExe fun e => { e with task := .path, front := some ⟨.second, 0, 0⟩ }
    ((after .servoPeriodExpiry s).part 7).progress = some ⟨.second, 0, 0⟩ := by decide +kernel

/-- The line is not idle while the own frame is on it, and a fragment in POWER_DOWN sets the idle time back (R60,
R182). -/
theorem test_idle_time_of_the_line :
    (after .servoPeriodExpiry (after (.transmitStart 100) (at_ .idle none))).port.idle = 0 ∧
      (after .servoPeriodExpiry (at_ .idle none)).port.idle = 1000 ∧
      (after .cellFrameDiscard ((at_ .powerDown none).modPort fun p => { p with idle := 90 })).port.idle = 0 := by
  decide +kernel

/-! ### Witnesses: states that meet the hypotheses of each obligation, clause by clause -/

theorem witness_StepRunsFrontCommand :
    (State.reset.setPending [.hold, .powerWarn]).pending = .hold :: [.powerWarn] ∧ State.reset.pending = [] :=
  ⟨rfl, rfl⟩

theorem witness_CommandsLeaveQueueAndComplete :
    (∃ t, exec .hold State.reset = .next t) ∧ Instr.hold ≠ .emission := ⟨⟨_, rfl⟩, by decide⟩

/-- Every invariant holds at reset with a command in the queue, and the step answers a next state. -/
theorem witness_StepKeepsStoreAndQueueSizes :
    (State.reset.setPending [.hold]).storeWf ∧ (State.reset.setPending [.hold]).bounded ∧
      ∃ t, step (State.reset.setPending [.hold]) = .next t := by
  refine ⟨rfl, ?_, _, rfl⟩
  unfold State.bounded
  decide +kernel

theorem witness_StepKeepsFollowingValues :
    (State.reset.setPending [.hold]).settled ∧ ∃ t, step (State.reset.setPending [.hold]) = .next t := by
  refine ⟨?_, _, rfl⟩
  unfold State.settled
  decide +kernel

/-- L at the draw target, at D and at the draw in transmission. -/
def atCeiling : State :=
  ((((at_ .run (some .cutting)).modGen fun g => { g with level := 7, draw := 7 }).modCoord fun c =>
    { c with drawn := 7 }).modPort fun p => { p with tx := .sending, frame := some ⟨0, .cutting, 7, 6, false, .off, 0⟩ })
    |>.setPending [.hold]

theorem witness_StepKeepsLevelUnderCeiling :
    atCeiling.underCeiling ∧ atCeiling.gen.level = 7 ∧ ∃ t, step atCeiling = .next t := by
  refine ⟨⟨by decide +kernel, by decide +kernel, ?_⟩, rfl, _, rfl⟩
  intro n h
  cases h
  decide

/-- Threader Control in FEED, with the valve open and the jet held. -/
def feeding : State :=
  ((phased .thread .feed (on7 .uncut .off (at_ .run (some .threading)))).modThr fun t =>
    { t with valve := true, feed := true }).modCoord fun c => { c with jet := .holding, stamp := 42 }

theorem witness_StepKeepsOutputsInTheirPhases :
    (feeding.setPending [.readPeers]).threaderSafe ∧ feeding.thr.valve = true ∧
      ∃ t, step (feeding.setPending [.readPeers]) = .next t := by
  refine ⟨?_, rfl, _, rfl⟩
  unfold State.threaderSafe
  decide +kernel

/-- A halted station. -/
def halted : State := (at_ .halted none).modSeq fun q => { q with halt := some .travelLimit }

theorem witness_HaltedStationStaysHalted :
    halted.haltedAtRest ∧ Instr.hold ≠ .resetStation ∧ ∃ t, exec .hold halted = .next t := by
  refine ⟨?_, by decide, _, rfl⟩
  unfold State.haltedAtRest
  decide +kernel

theorem witness_LockedRecordsStand :
    let s := (at_ .run none).setLocks [0, 4095]
    s.storeWf ∧ s.seq.station = .run ∧ 4095 ∈ s.locks ∧ (∃ t, exec .powerWarn s = .next t) ∧
      halted.seq.station = .halted := ⟨rfl, rfl, by decide, ⟨_, rfl⟩, rfl⟩

theorem witness_RetainedItemsAndReports :
    Instr.hold ≠ .loadPath ∧ Instr.hold ≠ .clearStore ∧ Instr.hold ≠ .loadCondition ∧ Instr.hold ≠ .setup ∧
      Instr.hold ≠ .servoPeriodExpiry ∧ Instr.hold ≠ .loadPart ∧ Instr.hold ≠ .readReports ∧
      ∃ t, exec .hold State.reset = .next t :=
  ⟨by decide, by decide, by decide, by decide, by decide, by decide, by decide, _, rfl⟩

theorem witness_RequestFramesAreReceived :
    (⟨0x03, List.replicate 399 0⟩ : Request).payload.length ≤ 399 :=
  Nat.le_of_eq List.length_replicate

theorem witness_NoticeFramesAreReceived :
    let n : Notice := ⟨7, .halted, 15, 15, true, .hold, 65535⟩
    n.station < 8 ∧ n.draw < 16 ∧ n.flush < 16 ∧ n.stamp < 65536 := by decide

theorem witness_PowerOnRestartsAndListens :
    ((List.finRange 32).filter fun q => ((on7 .active .off (at_ .run none)).part q).working).length ≤ 31 ∧
      State.reset.seq.station = .listen ∧ State.reset.seq.listen = some 250 ∧ State.reset.calm := by
  refine ⟨by decide +kernel, rfl, rfl, rfl, ?_⟩
  decide

/-- The setpoint words in two's complement, and the level output off while the generator is off (R179). -/
theorem test_outputs :
    let s := (State.reset.modExe fun e => { e with position := ⟨-1, -2147483648⟩ }).modGen fun g => { g with level := 9 }
    s.outputs.xSetpoint = 0xFFFFFFFF ∧ s.outputs.ySetpoint = 0x80000000 ∧ s.outputs.level = 0 ∧
      (s.modGen fun g => { g with on := true }).outputs.level = 9 := by decide

/-- The one transmission of POWER_DOWN under way, in degraded line mode after 7 collisions. -/
def lastWords : State :=
  ((at_ .powerDown none).modPort fun p =>
    { p with line := none, tx := .sending, frame := some ⟨0, .halted, 0, 0, false, .off, 0⟩, collisions := 7 }).modCoord
    fun c => { c with mode := .degraded }

theorem witness_PowerWarnEntersPowerDown :
    (at_ .held (some .cutting)).seq.station = .held ∧ halted.seq.station = .halted ∧
      ((at_ .powerDown none).modPort fun p => { p with line := none }).downAtRest ∧ lastWords.downAtRest ∧
      lastWords.port.tx = .sending ∧ lastWords.port.frame = some ⟨0, .halted, 0, 0, false, .off, 0⟩ ∧
      lastWords.coord.mode = .degraded := by
  unfold State.downAtRest
  decide +kernel

/-- Its completion sets the collision count to 0 and returns to normal line mode with LINE_RESTORED (R153, R154). -/
theorem test_last_transmission_restores_the_line :
    let t := after .transmissionComplete lastWords
    t.port.collisions = 0 ∧ t.coord.mode = .normal ∧
      t.reports.items.map (fun r => (r.kind, r.detail)) = [(.lineRestored, 7)] := by decide +kernel

theorem witness_ResetStationClearsTheWork :
    (asked 0x0F [] halted).front = some ⟨0x0F, []⟩ ∧ halted.seq.station ≠ .listen ∧ halted.raised = [] ∧
      (asked 0x0F [] State.reset).front = some ⟨0x0F, []⟩ ∧ State.reset.seq.station = .listen ∧
      (let s := on7 .active .off (at_ .run none)
       (s.part 7).working = true ∧
         s.reports.items.length + ((List.finRange 32).filter fun q => (s.part q).working).length ≤ 32) := by
  decide +kernel

/-- One request in the buffer, and two, the first with its response in transmission; POWER_DOWN before and after the
last transmission. -/
theorem witness_ArrivalsFillTheBufferAndResponsesFreeIt :
    let one := asked 0x0B [] (at_ .idle none)
    let two := one.modLink fun l => { l with buffer := [⟨0x0B, []⟩, ⟨0x0B, []⟩], response := some ⟨0x0B, .ok, []⟩ }
    requestOf (Request.frame ⟨0x07, []⟩) = some ⟨0x07, []⟩ ∧ one.seq.station ≠ .powerDown ∧
      one.link.buffer.length < 2 ∧ 2 ≤ two.link.buffer.length ∧ requestOf [0xA5, 0, 0] = none ∧
      noticeOf [] = none ∧ one.port.tx ≠ .sending ∧ two.link.response = some ⟨0x0B, .ok, []⟩ ∧
      (asked 0x10 [] one).front = some ⟨0x10, []⟩ ∧ (⟨0x10, []⟩ : Request).parse = .unknown ∧
      (⟨0x07, [0]⟩ : Request).parse = .unknown ∧ (at_ .powerDown none).seq.station = .powerDown ∧
      (at_ .powerDown none).port.tx = .ready ∧
      ((at_ .powerDown none).modPort fun p => { p with tx := .quiet }).port.tx = .quiet := by decide +kernel

/-- Every request of the statement at the front, in HALTED and in a state that does not take it. -/
theorem witness_HaltedAndUntimelyRequestsAreRefused :
    ∀ r ∈ [(⟨0x01, List.replicate 24 0⟩ : Request), ⟨0x02, List.replicate 12 0⟩, ⟨0x03, List.replicate 22 0⟩,
        ⟨0x04, List.replicate 30 0⟩, ⟨0x05, []⟩, ⟨0x06, []⟩, ⟨0x07, []⟩, ⟨0x08, []⟩, ⟨0x09, []⟩, ⟨0x0A, [40]⟩],
      (asked r.code r.payload halted).front = some r ∧
        (asked r.code r.payload (at_ .listen none)).front = some r := by decide +kernel

/-- A setup record and a condition with every field at a bound of its range, and one past it. -/
theorem witness_SetupAndConditionsAreWrittenWhole :
    let good := intBytes (-5) ++ intBytes (-5) ++ intBytes 0 ++ intBytes 9 ++ toBytes 4 200000 ++ toBytes 2 50000 ++
      toBytes 2 500
    let bad := intBytes 1 ++ intBytes 0 ++ List.replicate 8 0 ++ toBytes 4 1 ++ toBytes 2 1 ++ toBytes 2 20000
    let w := Setup.read good
    let v := Setup.read bad
    let c := Condition.read (toBytes 1 200 ++ toBytes 2 4095 ++ [15, 1] ++ toBytes 2 1023 ++ toBytes 2 2000 ++ [2, 0])
    (asked 0x01 good (at_ .idle none)).front = some ⟨0x01, good⟩ ∧ good.length = 24 ∧ bad.length = 24 ∧
      (1 ≤ w.rapid ∧ w.rapid ≤ 200000 ∧ 1 ≤ w.dry ∧ w.dry ≤ 50000 ∧ 500 ≤ w.dropTime ∧ w.dropTime ≤ 20000 ∧
        w.xLow ≤ w.xHigh ∧ w.yLow ≤ w.yHigh) ∧
      ¬(v.xLow ≤ v.xHigh) ∧
      (20 ≤ c.vref ∧ c.vref ≤ 200 ∧ 1 ≤ c.fmax ∧ c.fmax ≤ 4095 ∧ 1 ≤ c.lreq ∧ c.lreq ≤ 15 ∧ 1 ≤ c.freq ∧
        c.freq ≤ 15 ∧ 1 ≤ c.rstep ∧ c.rstep ≤ 1023 ∧ 1 ≤ c.lr ∧ c.lr ≤ 2000 ∧ 2 ≤ c.offBase ∧ c.offBase ≤ 200) := by
  decide +kernel

/-- One record at the last index, beside a locked one; and the three refusals. -/
theorem witness_LoadPathWritesItsRecordsOrNothing :
    let p := toBytes 2 4095 ++ List.replicate 20 7
    let s := asked 0x03 p ((at_ .run none).setLocks [4094])
    s.front = some ⟨0x03, p⟩ ∧ (⟨0x03, p⟩ : Request).parse = .loadPath 4095 [List.replicate 20 7] ∧
      s.storeWf ∧ (∀ i ∈ s.locks, i < 4095 ∨ 4095 + 1 ≤ i) ∧
      (⟨0x03, toBytes 2 4094⟩ : Request).parse = .loadPath 4094 [] ∧
      ∃ i ∈ ((at_ .held none).setLocks [4095]).locks, 4095 ≤ i ∧ i < 4096 := by
  unfold State.storeWf
  decide +kernel

theorem witness_LoadPartAndClearStoreRewriteTables :
    let good := [31] ++ List.replicate 17 0 ++ [3] ++ List.replicate 9 0 ++ [7, 15]
    let bad := [31] ++ List.replicate 17 0 ++ [4] ++ List.replicate 9 0 ++ [7, 15]
    let w := PartRecord.read (good.drop 1)
    (asked 0x04 good (at_ .idle none)).front = some ⟨0x04, good⟩ ∧ good.length = 30 ∧ bad.length = 30 ∧
      (1 ≤ w.passCount ∧ w.passCount ≤ 3 ∧ 1 ≤ w.threadLimit ∧ w.threadLimit ≤ 7 ∧ 1 ≤ w.breakLimit ∧
        w.breakLimit ≤ 15) ∧ ¬((PartRecord.read (bad.drop 1)).passCount ≤ 3) ∧
      (asked 0x05 [] (at_ .idle none)).front = some ⟨0x05, []⟩ := by decide +kernel

/-- A walk in progress in IDLE, its request at the front of the buffer. -/
def walking (s : State) : State := asked 0x06 [] (s.setWalking true)

/-- A job of one part, its contour END alone. -/
def onePart (st : PartState) : State :=
  walking <| written 0 [bareRecord 7 0] <| loaded 0 Condition.cleared <|
    modPart 31 (fun r => { r with enabled := true, state := st }) ((at_ .idle none).setSetup ⟨true, 0, 0, 0, 0, 1, 1, 500⟩)

/-- A failed walk by each of the first five checks, and by an EMPTY record, for the one part 31; a walk that passed,
with a record that leads on. -/
theorem witness_StartJobWalksAndFailedWalkChangesNothing :
    let u := onePart .uncut
    let w := fun f => modPart 31 f u
    let empty := w fun r => { r with contour := ⟨some 1, none, none⟩ }
    (asked 0x06 [] store18).front = some ⟨0x06, []⟩ ∧ store18.seq.station = .idle ∧
      (match walkJob (walking store18) with | .error _ => true | .ok _ => false) = true ∧
      (walking store18).link.buffer = [⟨0x06, []⟩] ∧ (walking (at_ .idle none)).setup.present = false ∧
      u.setup.present = true ∧ (u.part 31).enabled = true ∧ (∀ q < 31, (u.part q).enabled = false) ∧
      (31 : Byte).toNat = (31 : PartNo).val ∧
      ((w fun r => { r with startHole := ⟨1, 0⟩ }).setup.inWindow ⟨1, 0⟩ = false) ∧
      u.setup.inWindow (u.part 31).startHole = true ∧ 1 ≤ (u.part 31).passCount ∧
      ((w fun r => { r with contour := ⟨some 4096, none, none⟩ }).part 31).contour.first = some 4096 ∧
      (u.part 31).initial.first = some 0 ∧ u.isLoaded 0 = true ∧ u.isLoaded 15 = false ∧
      (empty.part 31).contour.first = some 1 ∧ empty.record 1 = .empty ∧
      (written 0 [lineRecord 1 1] u).leadsTo 0 1 ∧ (written 0 [callRecord 9 1 0 0] u).leadsTo 0 9 ∧
      (let v := written 0 [lineRecord 1 1] u
       let read := fun w : WalkPoint =>
         checkRecord v false { w with locks := lockInsert w.position.val w.locks } (v.record w.position)
       let path := fun k => if k = 0 then (⟨0, [], false, []⟩ : WalkPoint) else ⟨1, [], false, [0]⟩
       (∀ k, k < 1 → read (path k) = .on (path (k + 1))) ∧ read (path 1) = .fails .invalidRecord) ∧
      (u.part 31).contour.get .first = some 0 ∧ (u.part 31).initial.get .first = some 0 ∧
      (u.part 30).enabled = false := by
  unfold State.leadsTo
  decide +kernel

theorem witness_PassedWalkGivesItsLockSet : walkJob (onePart .uncut) = .ok [0] := rfl

theorem witness_PassedWalkStartsOrEndsTheJob :
    ((asked 0x06 [] store18).front = some ⟨0x06, []⟩ ∧ store18.seq.station = .idle) ∧
    (∀ st ∈ [PartState.uncut, .skipped],
      walkJob (onePart st) = .ok [0] ∧ (onePart st).walking = true ∧ (onePart st).link.buffer = [⟨0x06, []⟩] ∧
        (onePart st).calm ∧ (onePart st).filters.limit.level = .clear ∧ (onePart st).filters.wireLow.level = .clear) ∧
      (∀ q, ((onePart .uncut).part q).enabled = true →
        ¬(((onePart .uncut).part q).state = .interrupted ∧ ((onePart .uncut).part q).stage = .off)) ∧
      ((onePart .uncut).part 31).enabled = true ∧ ((onePart .uncut).part 31).state = .uncut ∧
      (∀ q < 31, ¬(((onePart .uncut).part q).enabled = true ∧ ((onePart .uncut).part q).state = .uncut)) ∧
      ∀ q, ((onePart .skipped).part q).enabled = true → ((onePart .skipped).part q).state = .skipped := by
  refine ⟨by decide +kernel, ?_, by decide +kernel, by decide +kernel, by decide +kernel, by decide +kernel,
    by decide +kernel⟩
  intro st h
  simp only [List.mem_cons, List.not_mem_nil, or_false] at h
  rcases h with rfl | rfl <;> exact ⟨rfl, rfl, rfl, ⟨rfl, by decide⟩, rfl, rfl⟩

/-- Part 31 with a tab point, in a state and stage, and with a break point or none. -/
def resumable (st : PartState) (g : Stage) (b : Option PathPoint) : State :=
  modPart 31 (fun r => { r with stage := g, breakPoint := b, tab := some ⟨⟨3, 4⟩, 0, 0⟩ }) (onePart st)

/-- Each state in which R23 takes up part 31 again. -/
theorem witness_InterruptedAndTabbedPartsAreTakenUp :
    ∀ s ∈ [resumable .interrupted .off none, resumable .interrupted .cut (some ⟨.separation, 0, 5⟩),
        resumable .interrupted .cut none, resumable .interrupted .window none, resumable .tabbed .off none],
      s.selects 31 ∧ s.calm ∧ s.walking = true ∧ s.seq.station = .idle ∧ s.thr.request = .off ∧
        s.filters.cutterDone.level = .clear ∧ (s.part 31).tab = some ⟨⟨3, 4⟩, 0, 0⟩ := by
  unfold State.selects State.calm
  decide +kernel

theorem witness_ResumableJobsPass :
    walkJob (resumable .interrupted .off none) = .ok [0] ∧ walkJob (resumable .tabbed .off none) = .ok [0] := ⟨rfl, rfl⟩

theorem witness_HoldAndResumeKeepTheWork :
    let run := asked 0x07 [] (on7 .active .off (at_ .run (some .cutting)))
    let thread := asked 0x07 [] (phased .thread .tension (at_ .run (some .threading)))
    let held := asked 0x08 [] (at_ .held (some .cutting))
    let owed := held.modSeq fun q => { q with owed := some .wireCut }
    run.front = some ⟨0x07, []⟩ ∧ run.raised = [] ∧ run.thr.request ≠ .thread ∧ run.thr.phase ≠ .annealWait ∧
      thread.front = some ⟨0x07, []⟩ ∧ thread.thr.request = .thread ∧ thread.thr.phase.attempting = true ∧
      (asked 0x07 [] held).front = some ⟨0x07, []⟩ ∧
      held.front = some ⟨0x08, []⟩ ∧ held.calm ∧ held.seq.owed = none ∧ held.thr.held = false ∧
      held.thr.request ≠ .thread ∧
      (held.modThr fun t => { t with held := true }).thr.held = true ∧ held.seq.skipOwed = false ∧
      held.filters.cutterDone.level = .clear ∧ owed.front = some ⟨0x08, []⟩ ∧ owed.seq.owed = some .wireCut ∧
      owed.thr.request = .off := by
  unfold State.calm
  decide +kernel

theorem witness_InterruptionAndAbort :
    let s := asked 0x09 [] (on7 .separating .window (at_ .held (some .dropWatch)))
    s.seq.current = some 7 ∧ (s.part 7).working = true ∧ s.reports.items.length < 32 ∧
      (s.part 7).breakPoint = none ∧ s.front = some ⟨0x09, []⟩ ∧ s.seq.station = .held ∧ s.raised = [] := by
  decide +kernel

theorem witness_Skips :
    let s := on7 .separating .window (at_ .run (some .dropWatch))
    (asked 0x0A [32] s).front = some ⟨0x0A, [32]⟩ ∧ 32 ≤ (32 : Byte).toNat ∧
      (asked 0x0A [31] s).front = some ⟨0x0A, [31]⟩ ∧ (31 : PartNo).val = (31 : Byte).toNat ∧
      s.seq.current ≠ some 31 ∧ (s.part 31).state = .uncut ∧
      ((modPart 31 (fun r => { r with state := .hung }) s).part 31).state = .hung ∧
      (asked 0x0A [7] s).front = some ⟨0x0A, [7]⟩ ∧ s.seq.current = some 7 ∧ s.seq.activity = some .dropWatch ∧
      (setActivity .cutting s).seq.activity ≠ some .dropWatch ∧ s.raised = [] ∧ s.thr.request = .off ∧
      s.filters.cutterDone.level = .clear := by decide +kernel

theorem witness_Reads :
    (asked 0x0B [] halted).front = some ⟨0x0B, []⟩ ∧ (asked 0x0C [31] halted).front = some ⟨0x0C, [31]⟩ ∧
      (31 : PartNo).val = (31 : Byte).toNat ∧ 32 ≤ (255 : Byte).toNat ∧
      (asked 0x0D [] halted).front = some ⟨0x0D, []⟩ ∧ (asked 0x0E [] halted).front = some ⟨0x0E, []⟩ := by
  decide +kernel

theorem witness_ReportsAreQueuedOrCountedLost :
    State.reset.reports.items.length < 32 ∧
      32 ≤ (State.reset.modReports fun q => { q with items := List.replicate 32 ⟨.jobEnd, none, none, 0, 0⟩ }).reports.items.length := by
  decide +kernel

/-- Each case of the arc guard, at its bounds: one arc of eight, none, and the run of 15 (R93). -/
theorem witness_PeriodClosesTheCapture :
    let s := (at_ .run none).modGap fun g => { g with normal := 7, arc := 1, mark := true, openTally := 1, burnTally := 8 }
    let u := s.modGap fun g => { g with normal := 8 }
    s.seq.station ≠ .powerDown ∧ s.gap.mark = true ∧ 0 < s.gap.openTally ∧ 0 < s.gap.burnTally ∧
      7 + 1 + 0 ≤ 8 * s.gap.arc ∧ 8 * u.gap.arc < u.gap.normal + u.gap.arc + u.gap.short ∧ u.gen.arcFree < 15 ∧
      (u.modGen fun g => { g with arcFree := 15 }).gen.arcFree = 15 ∧ State.reset.gap.mark = false ∧
      State.reset.gap.openTally = 0 ∧ State.reset.gap.burnTally = 0 := by decide +kernel

theorem witness_HeldPeriodMovesNothing :
    let s := (on7 .active .off (at_ .held (some .cutting))).modGap fun g => { g with mark := true }
    let t := s.modExe fun e => { e with task := .path, front := some ⟨.second, 0, 0⟩ }
    s.seq.station = .held ∧ s.calm ∧ s.workingPart = some 7 ∧ s.gap.mark = true ∧ t.calm ∧
      (t.credited t.exe.front 7).progress = some ⟨.second, 0, 0⟩ := by
  unfold State.calm
  decide +kernel

/-- A move of 1000 nm at 400 nm per period, one period short of its end and in it. -/
def moving (progress : Nat) : State :=
  (((on7 .uncut .off (at_ .run (some .moving))).setSetup ⟨true, 0, 0, 0, 0, 400, 1, 500⟩).modExe fun e =>
    { e with task := .move, move := some ⟨⟨0, 0⟩, ⟨1000, 0⟩, 1000, progress⟩ })

theorem witness_MovesAdvanceAndArrive :
    (moving 599).exe.move = some ⟨⟨0, 0⟩, ⟨1000, 0⟩, 1000, 599⟩ ∧ (moving 599).seq.station = .run ∧
      (moving 599).exe.task = .move ∧ (moving 599).calm ∧ 599 + (moving 599).setup.rapid < 1000 ∧
      1000 ≤ 600 + (moving 600).setup.rapid ∧
      (moving 600).seq.activity = some .moving ∧ (moving 600).seq.current = some 7 ∧
      ((moving 600).part 7).state = .uncut ∧ (moving 600).seq.skipOwed = false ∧ (moving 600).thr.request = .off ∧
      (moving 600).filters.cutterDone.level = .clear ∧
      ((on7 .separating .cut (moving 600)).part 7).state ≠ .uncut ∧
      (setActivity .recovering (moving 600)).seq.activity = some .recovering ∧
      (setRoute .tab .move (moving 600)).seq.route = .tab := by
  unfold State.calm
  decide +kernel

/-- The station of section 6.8 with ordinal 13 at the head at progress 18 and the pulses of expiry A. -/
def forward68 : State :=
  ((period68.setQueue [seg68 13 2000 3]).modExe fun e => { e with progress := 18 }).modGap fun g =>
    { g with normal := 37, short := 3, burnSum := 4440, burnTally := 37 }

/-- A dry head of 600 nm and a LINE behind it that is dry for a length: the dry rate walks 1 nm past the head's end. -/
def dryEnd (dry : Nat) (a : Activity) : State :=
  let s := (setActivity a period68).setQueue [{ seg68 12 600 3 with dry := 600 }, { seg68 13 2000 3 with dry }]
  s.setSetup ⟨true, 0, 0, 0, 0, 1, 601 - s.exe.progress, 500⟩

theorem witness_ForwardStepWalksTheLine :
    let s := forward68
    let e := seg68 13 2000 3
    let ended := (period68.setQueue [seg68 12 600 3, seg68 13 2000 3]).modGap fun g =>
      { g with normal := 37, short := 3, burnSum := 4440, burnTally := 37 }
    let dry := (s.setQueue [{ e with dry := 100 }]).setSetup ⟨true, 0, 0, 0, 0, 1, 81, 500⟩
    let seek := fun g => (setActivity .recovering s).modExe fun x => { x with seek := some g }
    (∀ t ∈ [s, ended, dry, seek ⟨.second, 13, 19⟩], t.seq.station = .run ∧ t.seq.skipOwed = false ∧ t.calm ∧
      t.bounded ∧ t.exe.task = .path ∧ t.exe.cursor = 0 ∧ t.exe.rd = 0) ∧
      s.seq.activity = some .cutting ∧ s.exe.seek = none ∧ s.queue = [e] ∧ e.kind = .line ∧ e.dry = 0 ∧
      formStep s.gap.capture (s.condition 3) s.gen.level = .forward 58 ∧ s.exe.progress + 58 < 2000 ∧
      formStep ended.gap.capture (ended.condition 3) ended.gen.level = .forward 58 ∧
      600 ≤ ended.exe.progress + 58 ∧ ended.exe.progress + 58 - 600 < 2000 ∧
      dry.exe.progress + dry.setup.dry < 100 ∧ 98 ≤ dry.exe.progress + dry.setup.dry + 0 ∧
      100 ≤ dry.exe.progress + 82 ∧ s.exe.progress < e.length ∧
      (⟨.second, 14, 0⟩ : PathPoint).before ⟨.second, 15, 0⟩ = true ∧ e.ordinal < 15 ∧
      (seek ⟨.second, 13, 19⟩).exe.progress < 19 ∧ (seek ⟨.second, 13, 19⟩).seq.current = some 7 ∧ e.dry ≤ 19 ∧
      19 < ({ e with dry := 100 } : Entry).dry ∧
      (∀ t ∈ [dryEnd 2 .cutting, dryEnd 1 .cutting, dryEnd 1 .recovering, dryEnd 0 .recovering],
        t.seq.station = .run ∧ t.seq.skipOwed = false ∧ t.calm ∧ t.bounded ∧ t.exe.task = .path ∧
        t.exe.cursor = 0 ∧ t.exe.rd = 0 ∧ t.exe.seek = none ∧ t.seq.current = some 7 ∧ t.exe.progress < 600 ∧
        t.exe.progress + t.setup.dry - 600 = 1) ∧
      1 < (2 : Nat) ∧ (2 : Nat) ≤ 2000 ∧ 1 ≤ (1 : Nat) ∧ (1 : Nat) < 2000 ∧ 560 + 58 - 600 < 2000 := by
  unfold State.calm State.bounded
  decide +kernel

/-- Part 7 at the end of its pass 2 of 2, with a stop or a fault at the head; and of its pass 1. -/
def atStop (k : EntryKind) (pass : Pass) : State :=
  let e : Entry := ⟨k, ⟨600, 0⟩, ⟨600, 0⟩, none, 0, 3, 7, pass, 13, 0⟩
  ((modPart 7 (fun r => { r with pass := some pass, passCount := 2, contour := ⟨some 5, some 6, none⟩
                                 initial := ⟨some 3, some 3, none⟩ }) period68).setQueue [e]).modFetch fun f =>
    { f with state := .done, position := some 6 }

theorem witness_StopsAndFaultsEndThePass :
    (∀ k ∈ [EntryKind.stopTab, .stopEnd, .fault .arcGeometry], ∀ a ∈ [Activity.cutting, .recovering],
      let s := setActivity a (atStop k .second)
      s.seq.station = .run ∧ s.seq.skipOwed = false ∧ s.calm ∧ s.exe.task = .path ∧ s.exe.seek = none ∧
        s.exe.cursor = 0 ∧ s.queue.map Entry.kind = [k] ∧ s.seq.current = some 7 ∧ (s.part 7).state = .active ∧
        s.fetch.state ≠ .full ∧ s.fetch.position = some 6 ∧ s.thr.request = .off ∧
        s.filters.cutterDone.level = .clear ∧ (s.part 7).pass = some .second ∧
        (s.part 7).passCount ≤ Pass.second.code) ∧
      (let s := atStop .stopTab .first
       (s.part 7).pass = some .first ∧ Pass.first.next = some .second ∧ Pass.first.code < (s.part 7).passCount ∧
         (s.part 7).contour.get .second = some (6 : PathIndex).val ∧
         (s.part 7).initial.get .second = some (3 : CondNo).val) := by
  unfold State.calm
  decide +kernel

/-- Each test of R99 at its bound. -/
theorem witness_StepIsFormedFromTheCapture :
    let c : Capture := { Capture.blank with normal := 27, short := 9, mean := 91 }
    let d : Capture := { Capture.blank with normal := 28, short := 9, mean := 91 }
    let k : Condition := ⟨true, 90, 500, 12, 10, 200, 2, 8⟩
    0 < 1 ∧ c.normal + c.arc + c.short ≤ 4 * c.short ∧ 4 * d.short < d.normal + d.arc + d.short ∧ k.vref < d.mean ∧
      ({ d with mean := 90 } : Capture).mean ≤ k.vref ∧ Capture.blank.normal + Capture.blank.arc + Capture.blank.short = 0 ∧
      k.vref ≤ 200 ∧ 0 < k.lreq ∧ 1 * min 7 k.lreq < k.lreq := by decide +kernel

/-- A walk that ends in the far store, one that comes there from the near set, one that crosses inside the near set,
one that is exhausted, and one that fits (R111 to R113). -/
theorem witness_RetreatWalksBackInsideItsLimit :
    (walkBack (List.replicate 9 (seg68 1 10 3)) 0 5 1000).cursor = 5 ∧
      (walkBack (List.replicate 9 (seg68 1 10 3)) 0 5 12).cursor = 1 ∧ 18 < 200 ∧ 4 ≤ 4 ∧
      (walkBack (period68.history.drop 4) 4 18 200).cursor = 5 ∧
    (walkBack (period68.history.drop 4) 4 18 200).left = 182 ∧
      (walkBack (period68.history.drop 4) 4 18 200).exhausted = false ∧
      (walkBack [] 0 18 200).exhausted = true ∧ (walkBack [] 0 200 200).left = 0 ∧
      period68.queue = seg68 12 600 3 :: [seg68 13 2000 3, seg68 14 1500 5] := by decide +kernel

theorem witness_LinesAreRoundedToTheNearest :
    2 * (roundDiv (-5) 2 * 2 - -5).natAbs = 2 ∧ (0 : Nat) < 1 ∧ 0 ≤ 1 ∧ (⟨0, 5⟩ : Point).x ≤ (⟨9, 5⟩ : Point).x := by
  decide +kernel

theorem witness_PulsesAreClassedAndCounted :
    (255 : Byte).toNat = 255 ∧ (254 : Byte).toNat ≠ 255 ∧ (29 : Byte).toNat < 30 ∧ 30 ≤ (30 : Byte).toNat ∧
      (4 : Byte).toNat < 5 ∧ 5 ≤ (5 : Byte).toNat ∧ (at_ .powerDown none).seq.station = .powerDown ∧
      State.reset.seq.station ≠ .powerDown := by decide +kernel

theorem witness_EmissionPlacesSegmentsAndStops :
    let s := fetch46.modFetch fun f => { f with position := some 1201 }
    let stop : Point := ⟨2000000, 1005000⟩
    let start : Point := ⟨2000000, 1000000⟩
    let far : Point := ⟨2000000 + 2147483647, 0⟩
    s.fetch.state = .running ∧ s.queue.length < 16 ∧ s.fetch.part = some 3 ∧ s.fetch.pass = some .first ∧
      s.fetch.position = some 1201 ∧ s.fetch.endPoint = some start ∧ s.fetch.cond = some 4 ∧
      s.record 1201 = .line 0 5000 ∧ stop.inRange = true ∧ far.inRange = false ∧ stop ≠ start ∧
      s.setup.inWindow stop = true ∧ s.setup.inWindow ⟨-1, 0⟩ = false ∧ s.fetch.ordinal ≤ 65534 ∧
      s.record 1206 = .fin ∧ s.fetch.stack = [] ∧
      s.record 1207 = .empty ∧ State.reset.fetch.state ≠ .running := by decide +kernel

/-- An arc record in the fetch of section 4.6; radii at the bounds of R8; an arc of three quarters of a turn, and an
end on the same ray as the start. -/
theorem witness_ArcsAreResolved :
    let arc : List Byte := toBytes 4 3 ++ intBytes 4000 ++ intBytes 4000 ++ intBytes 4000 ++ intBytes 0
    (written 1201 [arc] fetch46).record 1201 = .arc false 4000 4000 4000 0 ∧
      arcRadiiFail ⟨0, 0⟩ ⟨4000, 4000⟩ ⟨4000, 0⟩ = false ∧ 0 < arcLength false ⟨0, 0⟩ ⟨4000, 4000⟩ ⟨4000, 0⟩ ∧
      arcRadiiFail ⟨0, 0⟩ ⟨999, 999⟩ ⟨999, 0⟩ = true ∧ distSq ⟨999, 0⟩ ⟨0, 0⟩ < 1000000 ∧
      distSq ⟨1000, 0⟩ ⟨0, 0⟩ = 1000 * 1000 ∧ distSq ⟨0, 2001⟩ ⟨0, 0⟩ = 2001 * 2001 ∧
      0 < arcSweep false ⟨0, 0⟩ ⟨4000, 4000⟩ ⟨4000, 0⟩ ∧ (0 : Int) < 2000 * 3000 + 0 * 0 ∧
      arcLength false ⟨2000, 0⟩ ⟨3000, 0⟩ ⟨0, 0⟩ = 0 := by decide +kernel

theorem witness_CallsReturnAndStayWithinDepth :
    let f : CallFrame := ⟨5, 9, 2, 0, ⟨6, 0⟩, ⟨1, 1⟩⟩
    let deep : ReadPoint := ⟨0, List.replicate 15 f, ⟨0, 0⟩, 0⟩
    let e : Emission := ⟨PartRecord.cleared, .first, Setup.blank, ⟨0, 0⟩, 0⟩
    deep.stack.length = 15 ∧ ({ deep with stack := List.replicate 14 f } : ReadPoint).stack.length < 15 ∧
      f.index + 1 < f.repeats ∧ ({ f with index := 1 } : CallFrame).repeats ≤ 1 + 1 ∧ e.pass ≠ .separation ∧
      ({ e with record := { PartRecord.cleared with retain := true } } : Emission).record.retain = true ∧
      e.record.retain = false := by decide +kernel

/-- Ordinals 8, 9 and 10 against the dry target (1, 9, 1200) of section 4.6. -/
theorem witness_PlacedSegmentsHaveTheirDryLength :
    let s := fetch46.modFetch fun f => { f with target := some ⟨.first, 9, 1200⟩ }
    let at8 := afterAll s (List.replicate 8 .emission)
    let e := (after .emission at8).queue.getLast?
    after .emission at8 ≠ at8 ∧ e.map Entry.isPath = some true ∧ e.map Entry.ordinal = some 8 ∧
      at8.fetch.target = some ⟨.first, 9, 1200⟩ ∧ fetch46.fetch.target = none := by decide +kernel

theorem witness_InputsNeedTwoSamples :
    let s := (at_ .idle none)
    let t := modFilter .limit (fun _ => ⟨.clear, some .clear, .asserted⟩) s
    s.seq.station ≠ .powerDown ∧ Level.asserted ≠ .clear ∧ (t.filters.get .limit).level = .clear ∧
      (t.filters.get .limit).last = some .clear ∧ (t.filters.get .limit).expected = .asserted ∧
      s.seq.station = .idle := by decide +kernel

theorem witness_HaltsStopTheStation :
    let s := on7 .active .off (at_ .held (some .cutting))
    let c := phased .cut .cutTip s
    s.seq.station = .held ∧ s.raised = [] ∧ s.walking = false ∧ s.filters.limit.idleClear ∧
      s.filters.wireLow.idleClear ∧ c.thr.phase = .cutTip ∧ c.thr.timer.isSome ∧
      (∃ t, exec .cutTipTimeout c = .next t) := by
  refine ⟨rfl, rfl, rfl, ⟨rfl, rfl⟩, ⟨rfl, rfl⟩, rfl, rfl, _, rfl⟩

/-- A halt of the model meets the hypothesis of the second part of the statement. -/
theorem witness_HaltLeavesTheStationAtRest :
    State.settles State.reset (State.reset.afterHalt .travelLimit)
        (finish State.reset (State.reset.afterHalt .travelLimit)) ∧ State.reset.walking = false := by
  refine ⟨?_, rfl⟩
  unfold State.settles State.settled
  decide +kernel

/-- An open window, an unattributed drop, and an early drop on a THREADED wire; a window with and without credit. -/
theorem witness_DropsAndWindowExpiryDecideTheOutcome :
    let w := (on7 .separating .window (at_ .run (some .dropWatch))).modSeq fun q => { q with window := some 0, dropCount := 32 }
    let e := (on7 .active .off (at_ .run (some .cutting))).modThr fun t => { t with wire := .threaded }
    w.calm ∧ w.filters.drop.idleClear ∧ w.filters.cutterDone.level = .clear ∧ w.thr.request = .off ∧
      w.seq.current = some 7 ∧ (w.part 7).state = .separating ∧ (w.part 7).stage = .window ∧ w.seq.window.isSome ∧
      0 < w.seq.dropCount ∧ ¬(0 < e.seq.dropCount) ∧ (at_ .run none).workingPart = none ∧
      (e.part 7).state = .active ∧ e.thr.wire = .threaded ∧ w.reports.items.length < 32 := by
  unfold State.calm Filter.idleClear
  decide +kernel

theorem witness_StrokeEndLeadsOn :
    let s := (phased .thread .cutTip (at_ .run (some .threading))).modThr fun t => { t with cutter := true }
    let six := s.modCoord fun c => { c with drawn := 6 }
    let cut := fun st a => (phased .cut .cutTip (on7 .active .off (at_ st (some a)))).modThr fun t =>
      { t with cutter := true }
    let rec_ := (cut .held .recovering).modSeq fun q => { q with step := some .cut }
    let tab := modPart 7 (fun r => { r with tab := some ⟨⟨3, 4⟩, 0, 0⟩ }) (setRoute .tab .cut (cut .run .recovering))
    let two := modPart 9 (fun r => { r with enabled := true }) (cut .run .wireCutting)
    let next := two.modSeq fun q => { q with current := none }
    s.raised = [] ∧ s.thr.phase = .cutTip ∧ s.thr.cutter = true ∧ s.filters.cutterDone.idleClear ∧
      s.thr.request = .thread ∧ s.seq.skipOwed = false ∧ s.ceiling < 6 ∧ 6 ≤ six.powerAllowance ∧ 6 ≤ six.ceiling ∧
      rec_.thr.request = .cut ∧ rec_.seq.current = some 7 ∧ rec_.seq.activity = some .recovering ∧
      rec_.seq.step = some .cut ∧ (setRoute .hole .cut rec_).seq.route = .hole ∧ tab.seq.station = .run ∧
      tab.seq.route = .tab ∧ (tab.part 7).tab.map TabPoint.at_ = some ⟨3, 4⟩ ∧ two.thr.request = .cut ∧
      two.seq.activity = some .wireCutting ∧ (two.part 7).state = .active ∧ two.selects 9 ∧
      (two.part 9).state = .uncut ∧ two.thr.phase = .cutTip ∧ two.thr.cutter = true ∧
      two.filters.cutterDone.idleClear ∧ next.seq.current = none ∧ next.selects 9 ∧
      ∀ q, ((cut .run .wireCutting).part q).enabled = false := by
  unfold Filter.idleClear State.selects
  decide +kernel

/-- The wire starves at the end of segment 13, then STOP_END joins the queue and the wire breaks: the break point is
the front, the STOP's own ordinal at progress 0 (R75, R97, R138). -/
theorem test_break_point_at_a_stop_is_the_front :
    let stop : Entry := { seg68 14 0 3 with kind := .stopEnd }
    let s := (((period68.setQueue [stop]).modExe fun e =>
      { e with progress := 0, front := some ⟨.second, 14, 0⟩ }).modThr fun t => { t with wire := .threaded })
    let u := modFilter .tensionOk (fun _ => Filter.steady .asserted .asserted) s
    ((after (.tensionOkChange .clear .clear) u).part 7).breakPoint = some ⟨.second, 14, 0⟩ := by decide +kernel

theorem witness_ThreadingTimersGoOn :
    let s := (phased .thread .anneal (at_ .run (some .threading))).modThr fun t => { t with sagBlank := some 1 }
    let c := (phased .cut .done (at_ .run (some .wireCutting))).modThr fun t => { t with tensionCheck := true }
    s.raised = [] ∧ s.thr.phase = .anneal ∧ s.thr.sagBlank.isSome ∧ s.filters.supplySag.level = .clear ∧
      s.thr.timer.isSome ∧ s.seq.skipOwed = false ∧ s.coord.jet = .off ∧ c.thr.request = .cut ∧
      c.thr.tensionCheck = true ∧ c.thr.phase = .done ∧ c.thr.timer.isSome ∧ c.filters.cutterDone.level = .clear ∧
      s.seq.station ≠ .powerDown ∧ s.port.tx ≠ .silent ∧ s.filters.supplySag.idleClear ∧
      (phased .thread .anneal (at_ .run (some .threading))).thr.sagBlank = none := by
  unfold Filter.idleClear
  decide +kernel

/-- An anneal with no skip owed, and with one. -/
theorem witness_LeavingAnnealOwesANotice :
    ∀ owed ∈ [false, true],
      let s := (phased .thread .anneal (on7 .uncut .off (at_ .run (some .threading)))).modSeq fun q =>
        { q with skipOwed := owed }
      s.threaderSafe ∧ s.seq.skipOwed = owed ∧ s.seq.current.isSome = true ∧ s.thr.phase = .anneal ∧
        s.seq.station ≠ .powerDown ∧ s.port.tx ≠ .silent ∧ s.thr.timer.isSome = true := by
  unfold State.threaderSafe
  decide +kernel

theorem witness_FailedAttemptsAreRetriedOrEndTheThread :
    let s := fun p n => (phased .thread p (on7 .uncut .off (at_ .run (some .threading)))).modThr fun t => { t with attempts := n }
    (∀ p ∈ [Phase.anneal, .jetClaim, .feed, .tension], ∀ n ∈ [1, 2],
      let t := s p n
      t.thr.phase = p ∧ t.thr.timer.isSome = true ∧ t.thr.sagBlank = none ∧ t.filters.supplySag.idleClear ∧
        t.seq.station = .run ∧ t.seq.station ≠ .powerDown ∧ t.raised = [] ∧ t.seq.skipOwed = false ∧
        t.filters.cutterDone.level = .clear ∧ t.seq.current = some 7 ∧ (t.part 7).state = .uncut ∧
        t.seq.activity = some .threading ∧ t.walking = false ∧ t.seq.skipCount < 2) ∧
      (s .feed 1).thr.attempts + 1 < (s .feed 1).thr.limit.getD 0 ∧
      (s .feed 2).thr.limit.getD 0 ≤ (s .feed 2).thr.attempts + 1 ∧
      2 ≤ ((s .feed 2).modSeq fun q => { q with skipCount := 2 }).seq.skipCount := by
  unfold Filter.idleClear
  decide +kernel

theorem witness_ContactAndTensionCompleteTheThread :
    let s := fun st a => modPart 7 (fun r => { r with tab := some ⟨⟨3, 4⟩, 9, 2⟩, breakPoint := some ⟨.separation, 0, 5⟩
                                                      pass := some .first })
      (phased .thread .tension (on7 st .cut (at_ .run (some a))))
    let slot := (setRoute .slot .thread (s .active .recovering)).modSeq fun q =>
      { q with passStart := some ⟨1, 2⟩, rethread := some ⟨⟨.first, 3, 4⟩, ⟨5, 6⟩⟩ }
    feeding.seq.station ≠ .powerDown ∧ feeding.raised = [] ∧ feeding.seq.skipOwed = false ∧ feeding.thr.phase = .feed ∧
      feeding.filters.contact.idleClear ∧ feeding.filters.tensionOk.level = .clear ∧
      (∀ t ∈ [s .uncut .threading, s .separating .threading, setRoute .hole .thread (s .active .recovering),
          setRoute .tab .thread (s .separating .recovering), slot],
        t.seq.station = .run ∧ t.raised = [] ∧ t.seq.skipOwed = false ∧ t.thr.phase = .tension ∧
          t.thr.wire = .unthreaded ∧ t.filters.tensionOk.idleClear ∧ t.seq.current = some 7 ∧
          (t.part 7).contour.first = some (0 : PathIndex).val ∧ (t.part 7).initial.first = some (0 : CondNo).val ∧
          (t.part 7).tab = some ⟨⟨3, 4⟩, 9, 2⟩ ∧ (t.part 7).breakPoint = some ⟨.separation, 0, 5⟩) ∧
      slot.seq.route = .slot ∧ (slot.part 7).pass = some .first ∧ slot.seq.passStart = some ⟨1, 2⟩ ∧
      slot.seq.rethread = some ⟨⟨.first, 3, 4⟩, ⟨5, 6⟩⟩ ∧ Pass.first.code ≤ Pass.separation.code := by
  unfold Filter.idleClear
  decide +kernel

theorem witness_WireBreakBeginsRecovery :
    let f := fun (s : State) => (modFilter .tensionOk (fun _ => Filter.steady .asserted .asserted) s).modThr fun t =>
      { t with wire := .threaded, phase := .done }
    let s := fun st g x a => (f (on7 st g (at_ x (some a)))).modExe fun e => { e with front := some ⟨.second, 12, 560⟩ }
    let slot := modPart 7 (fun r => { r with slotAllowed := true }) <|
      ((s .active .off .run .cutting).setQueue [seg68 12 600 3]).modExe fun e => { e with progress := 560 }
    (∀ x ∈ [Station.listen, .idle, .halted], (f (at_ x none)).calm ∧ (f (at_ x none)).thr.wire = .threaded ∧
      (f (at_ x none)).filters.tensionOk = Filter.steady .asserted .asserted) ∧
    (∀ t ∈ [s .active .off .run .cutting, s .separating .cut .run .separating, s .active .off .held .cutting, slot],
      t.calm ∧ t.thr.wire = .threaded ∧ t.filters.tensionOk = Filter.steady .asserted .asserted ∧
      t.seq.current = some 7 ∧ t.seq.skipOwed = false ∧ (t.part 7).breakCount + 1 ≤ (t.part 7).breakLimit ∧
      t.thr.request = .off ∧ t.filters.cutterDone.level = .clear ∧ t.exe.front = some ⟨.second, 12, 560⟩) ∧
    (s .active .off .run .cutting).queue.head? = none ∧ ((s .active .off .run .cutting).part 7).slotAllowed = false ∧
    slot.workingSegment = some (seg68 12 600 3) ∧ slot.exe.progress < 600 ∧ (slot.part 7).slotAllowed = true ∧
    ((modPart 7 (fun r => { r with breakCount := 1 }) slot).part 7).breakLimit < 1 + 1 := by
  unfold State.calm
  decide +kernel

/-- The station of section 6.8 with the retreat depth at its limit of 2000 nm and the 199th clamped demand behind it. -/
theorem witness_StuckShortBeginsRecovery :
    let s := modPart 7 (fun r => { r with slotAllowed := true }) <|
      (period68.modExe fun e => { e with rd := 2000, stuck := 199 }).modGap fun g => { g with normal := 27, short := 9 }
    s.seq.station = .run ∧ s.calm ∧ s.seq.activity = some .cutting ∧ s.seq.current = some 7 ∧
      s.seq.skipOwed = false ∧ (s.part 7).state = .active ∧ (s.part 7).slotAllowed = true ∧
      (s.part 7).breakCount + 1 ≤ (s.part 7).breakLimit ∧ s.exe.task = .path ∧ s.exe.seek = none ∧
      s.exe.cursor = 0 ∧ s.queue.head? = some (seg68 12 600 3) ∧ (seg68 12 600 3).isPath = true ∧
      (seg68 12 600 3).dry ≤ s.exe.progress ∧ s.exe.progress < 600 ∧ s.exe.front = some ⟨.second, 12, 560⟩ ∧
      formStep s.gap.capture (s.condition 3) s.gen.level = .retreat ∧ 0 < (s.condition 3).rstep ∧
      s.exe.rd = 1000 * (s.condition 3).lr ∧ s.exe.stuck = 199 ∧ s.thr.request = .off ∧
      s.filters.cutterDone.level = .clear := by
  unfold State.calm
  decide +kernel

theorem witness_TransmissionsStartAndComplete :
    let s := at_ .run (some .cutting)
    let b := s.modPort fun p => { p with tx := .backoff }
    let n : Notice := ⟨0, .cutting, 7, 6, false, .off, 0⟩
    let c := s.modPort fun p => { p with tx := .sending, frame := some n }
    let k := (c.modPort fun p => { p with frame := some { n with jet := .claim, stamp := 43 } }).modCoord fun c =>
      { c with jet := .pending, stamp := 43, cmax := 42, cmaxSeen := true }
    let h := (k.modPort fun p => { p with frame := some { n with jet := .hold, stamp := 43 } }).modCoord fun c =>
      { c with jet := .holding }
    s.calm ∧ s.port.spacing = none ∧ s.port.tx = .ready ∧ b.port.tx = .backoff ∧
      (b.straps.station.val + 1) * 150 ≤ 150 ∧ ¬((b.straps.station.val + 1) * 150 ≤ 149) ∧ c.calm ∧
      c.port.tx = .sending ∧ c.port.frame = some n ∧ c.coord.mode = .normal ∧ n.jet = .off ∧ k.coord.jet = .pending ∧
      k.coord.completed = false ∧ k.coord.cmaxSeen = true ∧ stampPrecedes k.coord.cmax 43 = true ∧
      h.port.frame = some { n with jet := .hold, stamp := 43 } ∧ h.coord.jet ≠ .pending ∧ c.coord.jet = .off ∧
      (c.modCoord fun c => { c with mode := .degraded }).coord.mode = .degraded := by
  unfold State.calm
  decide +kernel

theorem witness_CollisionAndLineTimersKeepTheNoticeDue :
    let c := State.reset.modPort fun p => { p with tx := .sending }
    let r := State.reset.modCoord fun c => { c with refresh := some 0 }
    c.calm ∧ c.port.tx = .sending ∧ c.seq.station ≠ .powerDown ∧ State.reset.port.line.isSome ∧
      State.reset.coord.mode = .normal ∧ r.coord.refresh.isSome ∧ r.port.tx = .ready ∧
      (r.modPort fun p => { p with tx := .quiet }).port.tx = .quiet := by
  unfold State.calm
  decide +kernel

/-- A notice of station 7 at station 0, and the expiry of an entry held. -/
theorem witness_PeerTableFollowsTheNotices :
    let n : Notice := ⟨7, .cutting, 15, 15, false, .claim, 65535⟩
    State.reset.calm ∧ State.reset.coord.jet = .off ∧ (7 : StationNo) ≠ State.reset.straps.station ∧
      noticeOf n.bytes = some n ∧ n.station = (7 : StationNo).val ∧ State.reset.port.tx ≠ .sending ∧
      ((setPeer 7 (some n.entry) State.reset).peer 7).isSome := by
  unfold State.calm
  decide +kernel

theorem witness_OwnNumberHaltsAndSilences :
    let n : Notice := ⟨0, .listen, 0, 0, false, .off, 0⟩
    State.reset.raised = [] ∧ noticeOf n.bytes = some n ∧ n.station = State.reset.straps.station.val ∧ n.jet = .off ∧
      State.reset.walking = false ∧ State.reset.port.tx ≠ .sending ∧ State.reset.seq.station = .listen ∧
      halted.seq.station = .halted ∧ halted.thr.phase ≠ .annealWait := by decide +kernel

/-- A PENDING claim alone on the line, one against a HOLD, and a holder that an earlier holder meets. -/
theorem witness_JetIsGrantedAndYielded :
    let s := (phased .thread .jetClaim (at_ .run (some .threading))).modCoord fun c =>
      { c with jet := .pending, stamp := 42, settle := some 0 }
    let h := setPeer 2 (some ⟨0, .threading, 0, 0, false, .hold, 42⟩) s
    let n : Notice := ⟨2, .threading, 0, 0, false, .hold, 42⟩
    let y := (setPeer 2 (some n.entry) { feeding with straps := ⟨5, 0, 0⟩ }).modCoord fun c =>
      { c with cmax := 43, cmaxSeen := true }
    s.calm ∧ s.coord.jet = .pending ∧ s.coord.settle.isSome ∧ s.grantPasses = true ∧ s.seq.skipOwed = false ∧
      s.filters.contact.level = .clear ∧ h.grantPasses = false ∧ y.raised = [] ∧ y.seq.station ≠ .powerDown ∧
      y.thr.phase = .feed ∧ y.coord.jet = .holding ∧ y.coord.mode = .normal ∧ noticeOf n.bytes = some n ∧
      n.station = (2 : StationNo).val ∧ (2 : StationNo) ≠ y.straps.station ∧ y.port.tx ≠ .sending ∧
      n.phase ≠ .halted ∧ (y.peer 2).isSome ∧ stampPrecedes y.coord.cmax n.stamp = false ∧
      claimPrecedes n.stamp 2 y.coord.stamp y.straps.station.val = true := by
  unfold State.calm
  decide +kernel

/-- Stations 2 and 5 with equal stamps, each with the other's claim in its table: one passes, the other not. -/
theorem witness_GrantsExcludeEachOther :
    let s := (setPeer 5 (some ⟨0, .threading, 0, 0, false, .claim, 42⟩)
      { State.reset with straps := ⟨2, 0, 0⟩ }).modCoord fun c => { c with jet := .waiting, stamp := 42 }
    let t := (setPeer 2 (some ⟨0, .threading, 0, 0, false, .claim, 42⟩)
      { State.reset with straps := ⟨5, 0, 0⟩ }).modCoord fun c => { c with jet := .waiting, stamp := 42 }
    s.straps.station ≠ t.straps.station ∧ s.coord.stamp < 65536 ∧
      s.peer t.straps.station = some ⟨0, .threading, 0, 0, false, .claim, t.coord.stamp⟩ ∧
      t.peer s.straps.station = some ⟨0, .threading, 0, 0, false, .claim, s.coord.stamp⟩ ∧
      s.grantPasses = true ∧ t.grantPasses = false := by decide +kernel

theorem witness_AllowancesAndTargetsFollowTheirFormulas :
    let s := derive <| (setPeer 1 (some ⟨0, .cutting, 10, 0, false, .off, 0⟩) <|
      setPeer 2 (some ⟨0, .cutting, 8, 18, false, .off, 0⟩) { period68 with straps := ⟨4, 3, 3⟩ })
    let u := derive (at_ .run (some .cutting))
    s.settled ∧ s.seq.station = .run ∧ s.seq.activity = some .cutting ∧ s.gen.cond = some 3 ∧ s.coord.ap = 8 ∧
      s.coord.mode = .normal ∧ s.peer s.straps.station = none ∧
      (s.modCoord fun c => { c with mode := .degraded }).coord.mode = .degraded ∧
      State.reset.seq.station ≠ .run ∧ (∃ t, step (State.reset.setPending [.hold]) = .next t) ∧
      u.settled ∧ u.seq.station = .run ∧ u.seq.activity = some .cutting ∧ u.gen.cond = none ∧
      (after .listenTimerExpiry State.reset).phase ≠ State.reset.phase := by
  refine ⟨derive_settled _, by decide +kernel, by decide +kernel, by decide +kernel, by decide +kernel,
    by decide +kernel, by decide +kernel, by decide +kernel, by decide +kernel, ⟨_, rfl⟩, derive_settled _,
    by decide +kernel, by decide +kernel, by decide +kernel, by decide +kernel⟩

end Sys2Proof.Tests
end

section
/-! Every operation keeps the retained items and the sizes of the queues. `Keeps b s` says so of a state `s` reached
inside an event that began in `b`; each operation of the model has one lemma that carries it on. -/

namespace Sys2Proof.Machine

/-- What no event writes but by the commands that name it: the straps, the store, the two tables of LOAD CONDITION
and SETUP and the wire position stand as in `b`, and the queues keep their sizes. -/
def Keeps (b s : State) : Prop :=
  s.straps = b.straps ∧ s.store = b.store ∧ s.conds = b.conds ∧ s.setup = b.setup ∧
    s.exe.position = b.exe.position ∧ (b.bounded → s.bounded)

variable {b s : State}

@[simp] theorem Keeps.refl (s : State) : Keeps s s := ⟨rfl, rfl, rfl, rfl, rfl, id⟩

theorem Keeps.trans {a : State} (hab : Keeps a b) (hbs : Keeps b s) : Keeps a s := by
  obtain ⟨h1, h2, h3, h4, h5, h6⟩ := hab
  obtain ⟨k1, k2, k3, k4, k5, k6⟩ := hbs
  exact ⟨k1.trans h1, k2.trans h2, k3.trans h3, k4.trans h4, k5.trans h5, k6 ∘ h6⟩

theorem Keeps.bounded (h : Keeps b s) (hb : b.bounded) : s.bounded := by
  obtain ⟨-, -, -, -, -, h6⟩ := h
  exact h6 hb

theorem Keeps.store (h : Keeps b s) : s.store = b.store := by
  obtain ⟨-, h2, -⟩ := h
  exact h2

/-! ### One update per block -/

@[simp] theorem keeps_modNest (f) : Keeps b (s.modNest f) ↔ Keeps b s := Iff.rfl
@[simp] theorem keeps_modSeq (f) : Keeps b (s.modSeq f) ↔ Keeps b s := Iff.rfl
@[simp] theorem keeps_modFetch (f) : Keeps b (s.modFetch f) ↔ Keeps b s := Iff.rfl
@[simp] theorem keeps_modGap (f) : Keeps b (s.modGap f) ↔ Keeps b s := Iff.rfl
@[simp] theorem keeps_modGen (f) : Keeps b (s.modGen f) ↔ Keeps b s := Iff.rfl
@[simp] theorem keeps_modThr (f) : Keeps b (s.modThr f) ↔ Keeps b s := Iff.rfl
@[simp] theorem keeps_modFilters (f) : Keeps b (s.modFilters f) ↔ Keeps b s := Iff.rfl
@[simp] theorem keeps_modCoord (f) : Keeps b (s.modCoord f) ↔ Keeps b s := Iff.rfl
@[simp] theorem keeps_modPort (f) : Keeps b (s.modPort f) ↔ Keeps b s := Iff.rfl
@[simp] theorem keeps_setLocks (l) : Keeps b (s.setLocks l) ↔ Keeps b s := Iff.rfl
@[simp] theorem keeps_setWalking (w) : Keeps b (s.setWalking w) ↔ Keeps b s := Iff.rfl
@[simp] theorem keeps_setRaised (l) : Keeps b (s.setRaised l) ↔ Keeps b s := Iff.rfl
@[simp] theorem keeps_setNow (n) : Keeps b (s.setNow n) ↔ Keeps b s := Iff.rfl

/-- An Executor update that keeps the position. -/
@[simp] theorem keeps_modExe {f : Executor → Executor} (hf : ∀ e, (f e).position = e.position) :
    Keeps b (s.modExe f) ↔ Keeps b s := by
  unfold Keeps; rw [State.modExe_exe, hf]; rfl

@[simp] theorem keeps_setQueue_nil (h : Keeps b s) : Keeps b (s.setQueue []) := by
  obtain ⟨h1, h2, h3, h4, h5, h6⟩ := h
  exact ⟨h1, h2, h3, h4, h5, fun hb => ⟨Nat.zero_le _, (h6 hb).2⟩⟩

@[simp] theorem keeps_setHistory_nil (h : Keeps b s) : Keeps b (s.setHistory []) := by
  obtain ⟨h1, h2, h3, h4, h5, h6⟩ := h
  refine ⟨h1, h2, h3, h4, h5, fun hb => ?_⟩
  obtain ⟨hq, -, hr⟩ := h6 hb
  exact ⟨hq, Nat.zero_le _, hr⟩

/-- A job link update that leaves at most two requests where there were at most two. -/
theorem keeps_modLink {f : JobLink → JobLink}
    (hf : s.link.buffer.length ≤ 2 → (f s.link).buffer.length ≤ 2) (h : Keeps b s) : Keeps b (s.modLink f) := by
  obtain ⟨h1, h2, h3, h4, h5, h6⟩ := h
  refine ⟨h1, h2, h3, h4, h5, fun hb => ?_⟩
  obtain ⟨hq, hh, hl, hr⟩ := h6 hb
  exact ⟨hq, hh, hf hl, hr⟩

/-- A Report Queue update that leaves at most 32 reports where there were at most 32. -/
theorem keeps_modReports {f : ReportQueue → ReportQueue}
    (hf : s.reports.items.length ≤ Config.reportSize → (f s.reports).items.length ≤ Config.reportSize)
    (h : Keeps b s) : Keeps b (s.modReports f) := by
  obtain ⟨h1, h2, h3, h4, h5, h6⟩ := h
  refine ⟨h1, h2, h3, h4, h5, fun hb => ?_⟩
  obtain ⟨hq, hh, hl, hr⟩ := h6 hb
  exact ⟨hq, hh, hl, hf hr⟩

/-! ### Machine/Ops.lean -/

@[simp] theorem keeps_modPart (p f) : Keeps b (modPart p f s) ↔ Keeps b s := Iff.rfl
@[simp] theorem keeps_modFilter (i g) : Keeps b (modFilter i g s) ↔ Keeps b s := Iff.rfl
@[simp] theorem keeps_follow (i) : Keeps b (follow i s) ↔ Keeps b s := Iff.rfl
@[simp] theorem keeps_followTo (i l) : Keeps b (followTo i l s) ↔ Keeps b s := Iff.rfl

@[simp] theorem keeps_expect (i l) : Keeps b (expect i l s) ↔ Keeps b s := by
  unfold expect; simp only; split <;> simp

@[simp] theorem keeps_queueReport (k p c d) (h : Keeps b s) : Keeps b (queueReport k p c d s) := by
  refine keeps_modReports (fun hs => ?_) h
  split
  · rw [List.length_append]; exact ‹s.reports.items.length < _›
  · exact hs

@[simp] theorem keeps_partReport (p c) (h : Keeps b s) : Keeps b (partReport p c s) := keeps_queueReport _ _ _ _ h

@[simp] theorem keeps_interrupt (c p) (h : Keeps b s) : Keeps b (interrupt c p s) := by
  simp [interrupt, h]

@[simp] theorem keeps_interruptFound (c) (h : Keeps b s) : Keeps b (interruptFound c s) := by
  unfold interruptFound
  induction allParts generalizing s with
  | nil => exact h
  | cons p ps ih =>
    rw [List.foldl_cons]
    refine ih ?_
    split <;> simp [h]

@[simp] theorem keeps_interruptCurrent (c) (h : Keeps b s) : Keeps b (interruptCurrent c s) := by
  unfold interruptCurrent; split <;> simp [h]

@[simp] theorem keeps_answer (st p) (h : Keeps b s) : Keeps b (answer st p s) := keeps_modLink id h

theorem keeps_jobGate {takenIn : List Station} {body : State → State} (hbody : Keeps b (body s)) (h : Keeps b s) :
    Keeps b (jobGate takenIn body s) := by
  unfold jobGate
  split
  · simp [h]
  · split
    · exact hbody
    · simp [h]

/-! ### Machine/Flags.lean -/

@[simp] theorem keeps_dropCondition : Keeps b (dropCondition s) ↔ Keeps b s := by
  unfold dropCondition; split <;> simp

@[simp] theorem keeps_recomputeAllowances : Keeps b (recomputeAllowances s) ↔ Keeps b s := Iff.rfl
@[simp] theorem keeps_recomputeLevels : Keeps b (recomputeLevels s) ↔ Keeps b s := Iff.rfl
@[simp] theorem keeps_switchGenerator : Keeps b (switchGenerator s) ↔ Keeps b s := Iff.rfl
@[simp] theorem keeps_raiseLevel : Keeps b (raiseLevel s) ↔ Keeps b s := Iff.rfl
@[simp] theorem keeps_setDue : Keeps b (setDue s) ↔ Keeps b s := Iff.rfl
@[simp] theorem keeps_derive : Keeps b (derive s) ↔ Keeps b s := by simp [derive]

@[simp] theorem keeps_announce (a : State) : Keeps b (announce a s) ↔ Keeps b s := by
  unfold announce; split <;> simp

@[simp] theorem keeps_seeStamp (n) : Keeps b (seeStamp n s) ↔ Keeps b s := by
  unfold seeStamp; split <;> simp

/-! ### Machine/Units.lean -/

@[simp] theorem keeps_releaseJet : Keeps b (releaseJet s) ↔ Keeps b s := Iff.rfl
@[simp] theorem keeps_followWireInputs : Keeps b (followWireInputs s) ↔ Keeps b s := Iff.rfl
@[simp] theorem keeps_endAttempt : Keeps b (endAttempt s) ↔ Keeps b s := by
  simp [endAttempt, releaseOutputs]
@[simp] theorem keeps_stopThreader : Keeps b (stopThreader s) ↔ Keeps b s := by simp [stopThreader]

@[simp] theorem keeps_discardRequest : Keeps b (discardRequest s) ↔ Keeps b s := by
  unfold discardRequest; split <;> simp

@[simp] theorem keeps_enterCutTip : Keeps b (enterCutTip s) ↔ Keeps b s := by simp [enterCutTip]
@[simp] theorem keeps_requestThread (m n) : Keeps b (requestThread m n s) ↔ Keeps b s := by simp [requestThread]

@[simp] theorem keeps_requestCut (c) : Keeps b (requestCut c s) ↔ Keeps b s := by
  unfold requestCut; simp only; split <;> simp

@[simp] theorem keeps_withdrawThread : Keeps b (withdrawThread s) ↔ Keeps b s := by
  unfold withdrawThread; simp only; (repeat' split) <;> simp

@[simp] theorem keeps_holdThread : Keeps b (holdThread s) ↔ Keeps b s := by
  unfold holdThread; (repeat' split) <;> simp

@[simp] theorem keeps_clearWalk (h : Keeps b s) : Keeps b (clearWalk s) := by simp [clearWalk, h]
@[simp] theorem keeps_flush (h : Keeps b s) : Keeps b (flush s) := by simp [flush, h]

@[simp] theorem keeps_startPass (p a i st c t k) (h : Keeps b s) : Keeps b (startPass p a i st c t k s) := by
  unfold startPass; simp only; split <;> simp [h]

@[simp] theorem keeps_startContour (p a st t k) (h : Keeps b s) : Keeps b (startContour p a st t k s) := by
  simp [startContour, h]

@[simp] theorem keeps_startSeparation (p t) (h : Keeps b s) : Keeps b (startSeparation p t s) := by
  unfold startSeparation; split <;> simp [h]

@[simp] theorem keeps_requestMove (t) : Keeps b (requestMove t s) ↔ Keeps b s := by simp [requestMove]
@[simp] theorem keeps_silencePort : Keeps b (silencePort s) ↔ Keeps b s := Iff.rfl

/-! ### Machine/Sequencer.lean -/

@[simp] theorem keeps_setActivity (a) : Keeps b (setActivity a s) ↔ Keeps b s := Iff.rfl
@[simp] theorem keeps_setOwed (o) : Keeps b (setOwed o s) ↔ Keeps b s := Iff.rfl
@[simp] theorem keeps_clearRecovery : Keeps b (clearRecovery s) ↔ Keeps b s := Iff.rfl
@[simp] theorem keeps_dropCurrent : Keeps b (dropCurrent s) ↔ Keeps b s := Iff.rfl
@[simp] theorem keeps_setRoute (r t) : Keeps b (setRoute r t s) ↔ Keeps b s := Iff.rfl
@[simp] theorem keeps_setStep (t) : Keeps b (setStep t s) ↔ Keeps b s := Iff.rfl
@[simp] theorem keeps_closeWindow : Keeps b (closeWindow s) ↔ Keeps b s := Iff.rfl
@[simp] theorem keeps_clearSkips : Keeps b (clearSkips s) ↔ Keeps b s := Iff.rfl
@[simp] theorem keeps_followLimits : Keeps b (followLimits s) ↔ Keeps b s := Iff.rfl
@[simp] theorem keeps_enterIdle : Keeps b (enterIdle s) ↔ Keeps b s := by simp [enterIdle]

@[simp] theorem keeps_finishPart (p st c) (h : Keeps b s) : Keeps b (finishPart p st c s) := by
  unfold finishPart; simp only; split <;> simp [h]

@[simp] theorem keeps_beginCut (c) : Keeps b (beginCut c s) ↔ Keeps b s := by
  unfold beginCut; split <;> simp

@[simp] theorem keeps_jobEnd (h : Keeps b s) : Keeps b (jobEnd s) := by simp [jobEnd, h]
@[simp] theorem keeps_takeUp (p f) (h : Keeps b s) : Keeps b (takeUp p f s) := by simp [takeUp, h]
@[simp] theorem keeps_beginResumption (r) : Keeps b (beginResumption r s) ↔ Keeps b s := by simp [beginResumption]

@[simp] theorem keeps_beginPart (p) (h : Keeps b s) : Keeps b (beginPart p s) := by
  unfold beginPart; simp only; (repeat' split) <;> simp [h]

@[simp] theorem keeps_selectionPoint (h : Keeps b s) : Keeps b (selectionPoint s) := by
  unfold selectionPoint; (repeat' split) <;> simp [h]

@[simp] theorem keeps_endWalkHalted (h : Keeps b s) : Keeps b (endWalkHalted s) := by
  unfold endWalkHalted; split <;> simp [h]

@[simp] theorem keeps_haltStation (c) (h : Keeps b s) : Keeps b (haltStation c s) := by
  have hq : Keeps b (endWalkHalted (closeWindow (stopThreader (flush s)))) := by simp [h]
  unfold haltStation; simp only; split <;> simp [hq]

@[simp] theorem keeps_skipWorked (p c) (h : Keeps b s) : Keeps b (skipWorked p c s) := by simp [skipWorked, h]

@[simp] theorem keeps_actSkip (c) (h : Keeps b s) : Keeps b (actSkip c s) := by
  unfold actSkip; split
  · exact h
  · rename_i p _
    have hp : Keeps b (finishPart p .skipped (some .host) (withdrawThread (closeWindow (flush
        (s.modSeq fun q => { q with skipOwed := false }))))) := by simp [h]
    split <;> simp [hp]

theorem keeps_atBoundary {next : State → State} (hn : Keeps b (next s)) (h : Keeps b s) :
    Keeps b (atBoundary next s) := by
  unfold atBoundary; split <;> simp [h, hn]

@[simp] theorem keeps_skipThreadLimit (p) (h : Keeps b s) : Keeps b (skipThreadLimit p s) := by
  have hf := keeps_flush h
  unfold skipThreadLimit; dsimp only; split <;> simp [hf]

@[simp] theorem keeps_beginRecovery (c) (h : Keeps b s) : Keeps b (beginRecovery c s) := by
  unfold beginRecovery; split
  · exact h
  · simp only; split <;> simp [h]

@[simp] theorem keeps_countBreak (p) : Keeps b (countBreak p s) ↔ Keeps b s := by
  unfold countBreak; simp only; (repeat' split) <;> simp

@[simp] theorem keeps_breakTaken (c) (h : Keeps b s) : Keeps b (breakTaken c s) := by
  have hs : Keeps b (s.modExe fun e => { e with task := .off, seek := none }) := by simp [h]
  unfold breakTaken; (repeat' split) <;> (try dsimp only) <;> (repeat' split) <;> simp [h, hs]

@[simp] theorem keeps_routeAfterCut : Keeps b (routeAfterCut s) ↔ Keeps b s := by
  unfold routeAfterCut; split <;> simp

@[simp] theorem keeps_cutCompleted (h : Keeps b s) : Keeps b (cutCompleted s) := by
  unfold cutCompleted; (repeat' split) <;> simp [h]

@[simp] theorem keeps_moveArrived (h : Keeps b s) : Keeps b (moveArrived s) := by
  refine keeps_atBoundary ?_ h
  split <;> simp [h]

@[simp] theorem keeps_threadCompleted (h : Keeps b s) : Keeps b (threadCompleted s) := by
  refine keeps_atBoundary ?_ h
  simp only; (repeat' split) <;> simp [h]

@[simp] theorem keeps_threadLimitReached (h : Keeps b s) : Keeps b (threadLimitReached s) := by
  unfold threadLimitReached; (repeat' split) <;> simp [h]

@[simp] theorem keeps_openWindow (p) (h : Keeps b s) : Keeps b (openWindow p s) := by
  unfold openWindow; simp only
  split <;> exact keeps_atBoundary (by simp [h]) (by simp [h])

@[simp] theorem keeps_endRecovery (p) : Keeps b (endRecovery p s) ↔ Keeps b s := Iff.rfl

@[simp] theorem keeps_stopTaken (t a c) (h : Keeps b s) : Keeps b (stopTaken t a c s) := by
  unfold stopTaken; split
  · exact h
  · simp only; (repeat' split) <;> simp [h]

@[simp] theorem keeps_faultTaken (f) (h : Keeps b s) : Keeps b (faultTaken f s) := by
  refine keeps_atBoundary ?_ h
  split <;> simp [h]

@[simp] theorem keeps_targetReached : Keeps b (targetReached s) ↔ Keeps b s := by
  unfold targetReached; split <;> simp

@[simp] theorem keeps_earlyDrop (p) (h : Keeps b s) : Keeps b (earlyDrop p s) := by simp [earlyDrop, h]
@[simp] theorem keeps_dropInWindow (p) (h : Keeps b s) : Keeps b (dropInWindow p s) := by simp [dropInWindow, h]
@[simp] theorem keeps_unattributedDrop (h : Keeps b s) : Keeps b (unattributedDrop s) := by
  simp [unattributedDrop, h]

@[simp] theorem keeps_dropTaken (h : Keeps b s) : Keeps b (dropTaken s) := by
  unfold dropTaken; (repeat' split) <;> simp [h]

@[simp] theorem keeps_windowExpired (p) (h : Keeps b s) : Keeps b (windowExpired p s) := by
  unfold windowExpired; simp only; split <;> simp [h]

/-! ### Machine/Threading.lean -/

@[simp] theorem keeps_enterJetClaim : Keeps b (enterJetClaim s) ↔ Keeps b s := Iff.rfl
@[simp] theorem keeps_enterFeed : Keeps b (enterFeed s) ↔ Keeps b s := by simp [enterFeed]
@[simp] theorem keeps_enterAnneal : Keeps b (enterAnneal s) ↔ Keeps b s := Iff.rfl
@[simp] theorem keeps_enterTension : Keeps b (enterTension s) ↔ Keeps b s := by simp [enterTension]

@[simp] theorem keeps_grantTest (h : Keeps b s) : Keeps b (grantTest s) := by
  unfold grantTest grant; split
  · exact keeps_atBoundary (by simp [h]) (by simp [h])
  · exact h

@[simp] theorem keeps_jetConflict (n) (h : Keeps b s) : Keeps b (jetConflict n s) := by simp [jetConflict, h]

@[simp] theorem keeps_annealTest (h : Keeps b s) : Keeps b (annealTest s) := by
  unfold annealTest; split
  · exact keeps_atBoundary (by simp [h]) h
  · exact h

@[simp] theorem keeps_annealEnded (h : Keeps b s) : Keeps b (annealEnded s) :=
  keeps_atBoundary (by simp [h]) (by simp [h])

@[simp] theorem keeps_contactTaken (h : Keeps b s) : Keeps b (contactTaken s) :=
  keeps_atBoundary (by simp [h]) (by simp [h])

@[simp] theorem keeps_enterDone (h : Keeps b s) : Keeps b (enterDone s) := by simp [enterDone, h]

@[simp] theorem keeps_attemptFailed (f) (h : Keeps b s) : Keeps b (attemptFailed f s) := by
  refine keeps_atBoundary ?_ (by simp [h])
  split <;> simp [h]

@[simp] theorem keeps_strokeEnded : Keeps b (strokeEnded s) ↔ Keeps b s := Iff.rfl

@[simp] theorem keeps_cutterDoneTaken (h : Keeps b s) : Keeps b (cutterDoneTaken s) := by
  unfold cutterDoneTaken; simp only; split
  · simp [h]
  · refine keeps_atBoundary ?_ (by simp [h])
    split <;> simp [h]

@[simp] theorem keeps_cutterFault (h : Keeps b s) : Keeps b (cutterFault s) := by
  unfold cutterFault; simp only; split <;> simp [h]

@[simp] theorem keeps_wireBroken (h : Keeps b s) : Keeps b (wireBroken s) := by simp [wireBroken, h]

/-! ### Machine/Events.lean -/

@[simp] theorem keeps_actOn (i l) (h : Keeps b s) : Keeps b (actOn i l s) := by
  unfold actOn; (repeat' split) <;> simp [h]

@[simp] theorem keeps_takeEvent (i l) (h : Keeps b s) : Keeps b (takeEvent i l s) := by
  unfold takeEvent; split <;> simp [h]

@[simp] theorem keeps_conclude (a : State) : Keeps b (conclude a s) ↔ Keeps b s := by simp [conclude]

@[simp] theorem keeps_drain (n) (h : Keeps b s) : Keeps b (drain n s) := by
  induction n generalizing s with
  | zero => exact h
  | succ n ih =>
    unfold drain; split
    · exact h
    · exact ih (by simp [h])

@[simp] theorem keeps_quiesce (a : State) (h : Keeps b s) : Keeps b (quiesce a s) := by simp [quiesce, h]
@[simp] theorem keeps_finish (a : State) (h : Keeps b s) : Keeps b (finish a s) :=
  keeps_quiesce _ (keeps_annealTest (keeps_quiesce _ h))

@[simp] theorem keeps_sampleInput (i l m) (h : Keeps b s) : Keeps b (sampleInput i l m s) := by
  unfold sampleInput; simp only; (repeat' split) <;> simp [h]

end Sys2Proof.Machine
end

section
/-! The servo period's motion keeps the sizes of the Segment Queue and the Retreat History (R75, R109). -/

namespace Sys2Proof.Machine

variable {s : State}

@[simp] theorem bounded_modExe (f) : (s.modExe f).bounded ↔ s.bounded := Iff.rfl
@[simp] theorem bounded_modSeq (f) : (s.modSeq f).bounded ↔ s.bounded := Iff.rfl
@[simp] theorem bounded_endTask : (endTask s).bounded ↔ s.bounded := Iff.rfl
@[simp] theorem bounded_removalSeen : (removalSeen s).bounded ↔ s.bounded := Iff.rfl
@[simp] theorem bounded_clearStuck : (clearStuck s).bounded ↔ s.bounded := Iff.rfl
@[simp] theorem bounded_setStep (t) : (setStep t s).bounded ↔ s.bounded := Iff.rfl

/-- The queue taken shorter. -/
theorem bounded_setQueue {q : List Entry} (hq : q.length ≤ s.queue.length) (h : s.bounded) :
    (s.setQueue q).bounded := by
  obtain ⟨h1, h2⟩ := h
  exact ⟨Nat.le_trans hq h1, h2⟩

/-- The queue a walk leaves is no longer than the queue it began with. -/
theorem walkQueue_queue_length (g : Gait) :
    ∀ (q : List Entry) (p d : Nat) (done : List Entry), (walkQueue g q p d done).queue.length ≤ q.length
  | [], _, _, _ => Nat.le_refl _
  | e :: rest, p, d, done => by
    have ih := walkQueue_queue_length g rest 0 (d - (g.reach e - p)) (e :: done)
    unfold walkQueue
    split
    · exact Nat.le_refl _
    · split
      · exact Nat.le_refl _
      · split
        · exact Nat.le_refl _
        · cases rest with
          | nil => exact Nat.zero_le _
          | cons next rest =>
            dsimp only
            split
            · exact Nat.le_trans ih (Nat.le_succ _)
            · exact Nat.le_succ _

theorem walkHistory_queue_length (g : Gait) (q hist : List Entry) :
    ∀ c p d : Nat, (walkHistory g q hist c p d).queue.length ≤ q.length
  | 0, p, d => walkQueue_queue_length g q p d []
  | c + 1, p, d => by
    unfold walkHistory
    split
    · exact Nat.le_refl _
    · rename_i e _
      have ih := walkHistory_queue_length g q hist c 0 (d - (g.reach e - p))
      split
      · exact Nat.le_refl _
      · split
        · exact Nat.le_refl _
        · dsimp only
          split
          all_goals
            split
            · exact ih
            · exact Nat.le_refl _

theorem applyStride_bounded {w : Stride} {d : Nat} (hw : w.queue.length ≤ s.queue.length) (h : s.bounded) :
    (applyStride w d s).bounded := by
  have hq : (applyStride w d s).queue = w.queue := by simp [applyStride]
  have hh : (applyStride w d s).history.length ≤ Config.historySize :=
    List.length_take_le _ _
  obtain ⟨h1, -, h3, h4⟩ := h
  refine ⟨?_, hh, ?_, ?_⟩
  · rw [hq]; exact Nat.le_trans hw h1
  · simpa using h3
  · simpa using h4

theorem walkForward_bounded (g d) (h : s.bounded) : (walkForward g d s).bounded := by
  unfold walkForward; split
  · exact h
  · exact applyStride_bounded (walkHistory_queue_length _ _ _ _ _ _) h

theorem takeHead_bounded (h : s.bounded) : (takeHead s).1.bounded := by
  unfold takeHead
  split
  · rename_i e rest hq
    have hr : ((endTask s).setQueue rest).bounded := bounded_setQueue (by simp [hq]) h
    split
    · dsimp only; split <;> simp [h, hr]
    · exact h
  · exact h

theorem afterWalk_bounded (before : State) (h : s.bounded) : (afterWalk before s).1.bounded := by
  unfold afterWalk; split
  · exact h
  · exact takeHead_bounded h

theorem retreatTaken_bounded (k) (h : s.bounded) : (retreatTaken k s).1.bounded := by
  simpa [State.bounded] using h

theorem cutStep_bounded (e) (h : s.bounded) : (cutStep e s).1.bounded := by
  unfold cutStep; dsimp only; split
  · exact retreatTaken_bounded _ h
  · exact afterWalk_bounded _ (walkForward_bounded _ _ h)

theorem dryWalk_bounded (h : s.bounded) : (dryWalk s).1.bounded :=
  afterWalk_bounded _ (walkForward_bounded _ _ h)

theorem seekWalk_bounded (p) (h : s.bounded) : (seekWalk p s).1.bounded := by
  unfold seekWalk; dsimp only
  refine afterWalk_bounded _ ?_
  have hw (d) : (clearStuck (walkForward .seek d s)).bounded := walkForward_bounded _ _ h
  split
  · rw [bounded_setStep, bounded_modExe]; exact hw _
  · exact hw _

theorem walkPath_bounded (h : s.bounded) : (walkPath s).1.bounded := by
  unfold walkPath; split
  · exact takeHead_bounded h
  · split
    · exact dryWalk_bounded h
    · split
      · exact cutStep_bounded _ h
      · exact h

theorem advancePath_bounded (h : s.bounded) : (advancePath s).1.bounded := by
  unfold advancePath; split
  · rw [targetCheck_fst]; exact seekWalk_bounded _ h
  · rw [targetCheck_fst]; dsimp only; split
    · simpa [State.bounded] using walkPath_bounded h
    · exact walkPath_bounded h

theorem motion_bounded (h : s.bounded) : (motion s).1.bounded := by
  unfold motion; split
  · exact h
  · split
    · exact h
    · simpa [State.bounded] using h
    · exact advancePath_bounded h

/-! ### After the motion -/

variable {b : State}

@[simp] theorem keeps_creditPart (c m) : Keeps b (creditPart c m s) ↔ Keeps b s := by
  unfold creditPart; split <;> simp

@[simp] theorem keeps_periodReport : Keeps b (periodReport s) ↔ Keeps b s := by simp [periodReport]

@[simp] theorem keeps_handOver (h) (hs : Keeps b s) : Keeps b (handOver h s) := by
  unfold handOver; split <;> simp [hs]

/-- A servo period keeps the sizes of the queues. -/
theorem servoExpiry_bounded (h : s.bounded) : (servoExpiry s).bounded := by
  have hm : (motion (guardTaken (closeCapture (tick s)).gap.last (closeCapture (tick s)))).1.bounded :=
    motion_bounded (by simpa [State.bounded] using h)
  unfold servoExpiry; dsimp only
  obtain ⟨-, -, -, -, -, hb⟩ := keeps_finish s (keeps_handOver
    (motion (guardTaken (closeCapture (tick s)).gap.last (closeCapture (tick s)))).2
    (keeps_periodReport.2 ((keeps_creditPart s.frontIsCurrent (closeCapture (tick s)).gap.last.mark).2
      (Keeps.refl _))))
  exact hb hm

end Sys2Proof.Machine
end

section
/-! What each command writes of the retained items, and that every command keeps the sizes of the queues. -/

namespace Sys2Proof.Machine

variable {b s : State}

/-- What a result says of its next state, if it has one. -/
def Answers (P : State → Prop) (r : Result) : Prop := ∀ t, r = .next t → P t

@[simp] theorem answers_next (P : State → Prop) (t : State) : Answers P (.next t) ↔ P t := by
  simp [Answers]

@[simp] theorem answers_fault (P : State → Prop) (f : Fault) : Answers P (.fault f) ↔ True := by
  simp [Answers]

/-! ### Parts of the commands -/

@[simp] theorem keeps_portPowerDown : Keeps b (portPowerDown s) ↔ Keeps b s := Iff.rfl

@[simp] theorem keeps_enterPowerDown (h : Keeps b s) : Keeps b (enterPowerDown s) := by
  have hf := keeps_flush h
  simp [enterPowerDown, hf]

@[simp] theorem keeps_resetStation (h : Keeps b s) : Keeps b (resetStation s) := by
  have hi := keeps_interruptFound .reset h
  simp [resetStation, followThreaderInputs, wakePort, Executor.poweredOn, hi]

@[simp] theorem keeps_startFrame : Keeps b (startFrame s) ↔ Keeps b s := Iff.rfl

@[simp] theorem keeps_completeFrame (n) : Keeps b (completeFrame n s) ↔ Keeps b s := by
  unfold completeFrame; dsimp only; split <;> simp

@[simp] theorem keeps_returnLine (h : Keeps b s) : Keeps b (returnLine s) := by
  unfold returnLine; split <;> simp [h]

@[simp] theorem keeps_restoreLine (h : Keeps b s) : Keeps b (restoreLine s) := by
  unfold restoreLine; split <;> simp [h]

@[simp] theorem keeps_endSending : Keeps b (endSending s) ↔ Keeps b s := Iff.rfl
@[simp] theorem keeps_endLastFrame : Keeps b (endLastFrame s) ↔ Keeps b s := Iff.rfl
@[simp] theorem keeps_completeLastFrame (n) (h : Keeps b s) : Keeps b (completeLastFrame n s) := by
  simp [completeLastFrame, h]

@[simp] theorem keeps_countCollision : Keeps b (countCollision s) ↔ Keeps b s := Iff.rfl

@[simp] theorem keeps_lineActivity : Keeps b (lineActivity s) ↔ Keeps b s := by
  unfold lineActivity; split <;> simp

@[simp] theorem keeps_setPeer (n e) : Keeps b (setPeer n e s) ↔ Keeps b s := Iff.rfl

@[simp] theorem keeps_seeNotice (n) : Keeps b (seeNotice n s) ↔ Keeps b s := by
  unfold seeNotice; split <;> simp

@[simp] theorem keeps_conflictTest (p n) (h : Keeps b s) : Keeps b (conflictTest p n s) := by
  unfold conflictTest; split <;> simp [h]

@[simp] theorem keeps_peerNotice (p n) (h : Keeps b s) : Keeps b (peerNotice p n s) := by
  unfold peerNotice; dsimp only
  refine keeps_conflictTest _ _ (keeps_grantTest ?_)
  split <;> simp [h]

@[simp] theorem keeps_ownNumberNotice (n) (h : Keeps b s) : Keeps b (ownNumberNotice n s) := by
  unfold ownNumberNotice; dsimp only; split <;> simp [h]

@[simp] theorem keeps_enterDegraded (h : Keeps b s) : Keeps b (enterDegraded s) := by
  unfold enterDegraded; split <;> simp [h]

@[simp] theorem keeps_enterRun (h : Keeps b s) : Keeps b (enterRun s) := by simp [enterRun, h]
@[simp] theorem keeps_enterHeld : Keeps b (enterHeld s) ↔ Keeps b s := by simp [enterHeld]

@[simp] theorem keeps_doOwed (o) (h : Keeps b s) : Keeps b (doOwed o s) := by
  unfold doOwed; split <;> simp [h]

@[simp] theorem keeps_resumeThread (h : Keeps b s) : Keeps b (resumeThread s) := by
  unfold resumeThread; (repeat' split) <;> simp [h]

@[simp] theorem keeps_leaveHeld (h : Keeps b s) : Keeps b (leaveHeld s) := by
  unfold leaveHeld; dsimp only; split <;> simp [h]

@[simp] theorem keeps_abortJob (h : Keeps b s) : Keeps b (abortJob s) := by
  simp [abortJob, keeps_flush h]

@[simp] theorem keeps_skipOther (p) (h : Keeps b s) : Keeps b (skipOther p s) := by
  unfold skipOther; split <;> simp [h]

@[simp] theorem keeps_skipCurrent (h : Keeps b s) : Keeps b (skipCurrent s) := by
  unfold skipCurrent; split
  · exact keeps_finish _ (keeps_answer _ _ (keeps_actSkip _ h))
  · simp [h]

@[simp] theorem keeps_hunt (h : Keeps b s) : Keeps b (hunt s) := by
  unfold hunt; split
  · exact h
  · exact keeps_modLink id h

@[simp] theorem keeps_bufferRequest (r) (h : Keeps b s) : Keeps b (bufferRequest r s) := by
  refine keeps_modLink (fun _ => ?_) h
  split
  · rename_i hroom
    rw [List.length_append]
    exact hroom
  · assumption

@[simp] theorem keeps_sagWatch : Keeps b (sagWatch s) ↔ Keeps b s := by simp [sagWatch]

/-! ### The commands, in the order of the dispatch -/

variable (s)

theorem execListenTimerExpiry_keeps : Answers (Keeps s) (execListenTimerExpiry s) := by
  rw [execListenTimerExpiry, answers_next]; split <;> simp

theorem execPowerWarn_keeps : Answers (Keeps s) (execPowerWarn s) := by
  rw [execPowerWarn, answers_next]; split <;> simp

theorem execRequestArrival_keeps (frame) : Answers (Keeps s) (execRequestArrival frame s) := by
  rw [execRequestArrival, answers_next]; (repeat' split) <;> simp

theorem execJobLinkFrameDiscard_keeps : Answers (Keeps s) (execJobLinkFrameDiscard s) := by
  simp [execJobLinkFrameDiscard]

theorem execJobLinkByteTimeout_keeps : Answers (Keeps s) (execJobLinkByteTimeout s) := by
  simp [execJobLinkByteTimeout]

theorem execResponseSent_keeps : Answers (Keeps s) (execResponseSent s) := by
  rw [execResponseSent, answers_next]; split
  · refine keeps_modLink (fun h => ?_) (Keeps.refl s)
    rw [List.length_tail]; omega
  · simp

theorem execUnknownRequest_keeps : Answers (Keeps s) (execUnknownRequest s) := by
  rw [execUnknownRequest, answers_next]; split <;> simp

theorem execLoadPart_keeps : Answers (Keeps s) (execLoadPart s) := by
  rw [execLoadPart, answers_next]; split
  · refine keeps_jobGate ?_ (Keeps.refl s)
    (repeat' split) <;> simp
  · simp

theorem execStartJob_keeps : Answers (Keeps s) (execStartJob s) := by
  rw [execStartJob, answers_next]; split
  · exact keeps_jobGate (by simp) (Keeps.refl s)
  · simp

theorem execValidationWalkEnd_keeps : Answers (Keeps s) (execValidationWalkEnd s) := by
  rw [execValidationWalkEnd, answers_next]; dsimp only; split
  · split
    · simp
    · exact keeps_finish _ (keeps_enterRun (by simp))
  · simp

theorem execHold_keeps : Answers (Keeps s) (execHold s) := by
  rw [execHold, answers_next]; split
  · refine keeps_jobGate ?_ (Keeps.refl s)
    split <;> simp
  · simp

theorem execResume_keeps : Answers (Keeps s) (execResume s) := by
  rw [execResume, answers_next]; split
  · exact keeps_jobGate (keeps_finish _ (by simp)) (Keeps.refl s)
  · simp

theorem execAbort_keeps : Answers (Keeps s) (execAbort s) := by
  rw [execAbort, answers_next]; split
  · exact keeps_jobGate (keeps_finish _ (by simp)) (Keeps.refl s)
  · simp

theorem execSkipPart_keeps : Answers (Keeps s) (execSkipPart s) := by
  rw [execSkipPart, answers_next]; split
  · refine keeps_jobGate ?_ (Keeps.refl s)
    (repeat' split) <;> simp
  · simp

theorem execReadStatus_keeps : Answers (Keeps s) (execReadStatus s) := by
  rw [execReadStatus, answers_next]; split
  · exact keeps_modLink id (by simp)
  · simp

theorem execReadPart_keeps : Answers (Keeps s) (execReadPart s) := by
  rw [execReadPart, answers_next]; (repeat' split) <;> simp

theorem execReadPeers_keeps : Answers (Keeps s) (execReadPeers s) := by
  rw [execReadPeers, answers_next]; split <;> simp

theorem execReadReports_keeps : Answers (Keeps s) (execReadReports s) := by
  rw [execReadReports, answers_next]; split
  · refine keeps_modReports (fun h => ?_) (by simp)
    rw [List.length_drop]; omega
  · simp

theorem execResetStation_keeps : Answers (Keeps s) (execResetStation s) := by
  rw [execResetStation, answers_next]; split
  · split
    · simp
    · exact keeps_finish _ (by simp)
  · simp

theorem execPulseMeasurement_keeps (d v) : Answers (Keeps s) (execPulseMeasurement d v s) := by
  rw [execPulseMeasurement, answers_next]; split <;> simp

theorem execDropWindowExpiry_keeps : Answers (Keeps s) (execDropWindowExpiry s) := by
  rw [execDropWindowExpiry, answers_next]; split <;> simp

theorem execCutTipTimeout_keeps : Answers (Keeps s) (execCutTipTimeout s) := by
  rw [execCutTipTimeout, answers_next]; split <;> simp

theorem execSagBlankExpiry_keeps : Answers (Keeps s) (execSagBlankExpiry s) := by
  rw [execSagBlankExpiry, answers_next]; split <;> simp

theorem execAnnealExpiry_keeps : Answers (Keeps s) (execAnnealExpiry s) := by
  rw [execAnnealExpiry, answers_next]; split <;> simp

theorem execJetWaitLimitExpiry_keeps : Answers (Keeps s) (execJetWaitLimitExpiry s) := by
  rw [execJetWaitLimitExpiry, answers_next]; split <;> simp

theorem execFeedTimeout_keeps : Answers (Keeps s) (execFeedTimeout s) := by
  rw [execFeedTimeout, answers_next]; split <;> simp

theorem execTensionTimeout_keeps : Answers (Keeps s) (execTensionTimeout s) := by
  rw [execTensionTimeout, answers_next]; split <;> simp

theorem execTensionCheckExpiry_keeps : Answers (Keeps s) (execTensionCheckExpiry s) := by
  rw [execTensionCheckExpiry, answers_next]; split <;> simp

theorem execTransmitStart_keeps (n) : Answers (Keeps s) (execTransmitStart n s) := by
  rw [execTransmitStart, answers_next]; (repeat' split) <;> simp

theorem execTransmissionComplete_keeps : Answers (Keeps s) (execTransmissionComplete s) := by
  rw [execTransmissionComplete, answers_next]; (repeat' split) <;> simp

theorem execCollision_keeps : Answers (Keeps s) (execCollision s) := by
  rw [execCollision, answers_next]; (repeat' split) <;> simp

theorem execNoticeArrival_keeps (frame) : Answers (Keeps s) (execNoticeArrival frame s) := by
  rw [execNoticeArrival, answers_next]; (repeat' split) <;> simp

theorem execCellFrameDiscard_keeps : Answers (Keeps s) (execCellFrameDiscard s) := by
  simp [execCellFrameDiscard]

theorem execSpacingTimerExpiry_keeps : Answers (Keeps s) (execSpacingTimerExpiry s) := by
  rw [execSpacingTimerExpiry, answers_next]; split <;> simp

theorem execLineTimerExpiry_keeps : Answers (Keeps s) (execLineTimerExpiry s) := by
  rw [execLineTimerExpiry, answers_next]; split <;> simp

theorem execRefreshTimerExpiry_keeps : Answers (Keeps s) (execRefreshTimerExpiry s) := by
  rw [execRefreshTimerExpiry, answers_next]; split <;> simp

theorem execPeerExpiry_keeps (n) : Answers (Keeps s) (execPeerExpiry n s) := by
  rw [execPeerExpiry, answers_next]; split
  · exact keeps_finish _ (keeps_grantTest (by simp))
  · simp

theorem execSettleTimerExpiry_keeps : Answers (Keeps s) (execSettleTimerExpiry s) := by
  rw [execSettleTimerExpiry, answers_next]; split <;> simp

/-- Two samples of an input line. -/
theorem sampleInput_answers (i l m) : Answers (Keeps s) (.next (sampleInput i l m s)) := by simp

/-- One entry goes to the tail of a queue that has room. -/
theorem keeps_place {t : State} {entry p st g} (hroom : t.queue.length < Config.queueSize) :
    Keeps t (place entry p st g t) := by
  refine ⟨rfl, rfl, rfl, rfl, rfl, fun ⟨_, hr⟩ => ⟨?_, hr⟩⟩
  show (t.queue ++ [entry]).length ≤ _
  rw [List.length_append]; exact hroom

theorem keeps_placeTaken (part e r) (hroom : s.queue.length < Config.queueSize) :
    Keeps s (placeTaken part e r s) := by
  unfold placeTaken; split
  · simp
  · exact keeps_place hroom
  · exact keeps_place hroom
  · exact keeps_place hroom

theorem execEmission_keeps : Answers (Keeps s) (execEmission s) := by
  unfold execEmission State.emit
  by_cases hrun : s.fetch.state = .running ∧ s.queue.length < Config.queueSize
  · rw [if_pos hrun]
    split <;> rename_i heq <;> split at heq <;> simp at heq ⊢
    obtain ⟨r, -, rfl⟩ := heq
    exact keeps_placeTaken _ _ _ _ hrun.2
  · rw [if_neg hrun]; simp

/-- The commands that write a retained item, and the servo period, which moves the wire. -/
def writesRetained : Instr → Bool
  | .loadPath | .clearStore | .loadCondition | .setup | .powerOn _ _ _ | .servoPeriodExpiry => true
  | _ => false

/-- Every other command keeps them all. -/
theorem exec_keeps (c : Instr) (hc : writesRetained c = false) : Answers (Keeps s) (exec c s) := by
  cases c with
  | powerOn | loadPath | clearStore | loadCondition | setup | servoPeriodExpiry => cases hc
  | listenTimerExpiry => exact execListenTimerExpiry_keeps s
  | powerWarn => exact execPowerWarn_keeps s
  | requestArrival frame => exact execRequestArrival_keeps s frame
  | jobLinkFrameDiscard => exact execJobLinkFrameDiscard_keeps s
  | jobLinkByteTimeout => exact execJobLinkByteTimeout_keeps s
  | responseSent => exact execResponseSent_keeps s
  | unknownRequest => exact execUnknownRequest_keeps s
  | loadPart => exact execLoadPart_keeps s
  | startJob => exact execStartJob_keeps s
  | validationWalkEnd => exact execValidationWalkEnd_keeps s
  | hold => exact execHold_keeps s
  | resume => exact execResume_keeps s
  | abort => exact execAbort_keeps s
  | skipPart => exact execSkipPart_keeps s
  | readStatus => exact execReadStatus_keeps s
  | readPart => exact execReadPart_keeps s
  | readPeers => exact execReadPeers_keeps s
  | readReports => exact execReadReports_keeps s
  | resetStation => exact execResetStation_keeps s
  | pulseMeasurement delay voltage => exact execPulseMeasurement_keeps s delay voltage
  | emission => exact execEmission_keeps s
  | dropInputChange l m => exact sampleInput_answers s .drop l m
  | dropWindowExpiry => exact execDropWindowExpiry_keeps s
  | limitInput l m => exact sampleInput_answers s .limit l m
  | wireLowInput l m => exact sampleInput_answers s .wireLow l m
  | cutterDone l m => exact sampleInput_answers s .cutterDone l m
  | cutTipTimeout => exact execCutTipTimeout_keeps s
  | sagBlankExpiry => exact execSagBlankExpiry_keeps s
  | annealExpiry => exact execAnnealExpiry_keeps s
  | supplySag l m => exact sampleInput_answers s .supplySag l m
  | jetWaitLimitExpiry => exact execJetWaitLimitExpiry_keeps s
  | contact l m => exact sampleInput_answers s .contact l m
  | feedTimeout => exact execFeedTimeout_keeps s
  | tensionOkChange l m => exact sampleInput_answers s .tensionOk l m
  | tensionTimeout => exact execTensionTimeout_keeps s
  | tensionCheckExpiry => exact execTensionCheckExpiry_keeps s
  | transmitStart idle => exact execTransmitStart_keeps s idle
  | transmissionComplete => exact execTransmissionComplete_keeps s
  | collision => exact execCollision_keeps s
  | noticeArrival frame => exact execNoticeArrival_keeps s frame
  | cellFrameDiscard => exact execCellFrameDiscard_keeps s
  | spacingTimerExpiry => exact execSpacingTimerExpiry_keeps s
  | lineTimerExpiry => exact execLineTimerExpiry_keeps s
  | refreshTimerExpiry => exact execRefreshTimerExpiry_keeps s
  | peerExpiry n => exact execPeerExpiry_keeps s n
  | settleTimerExpiry => exact execSettleTimerExpiry_keeps s

end Sys2Proof.Machine
end

section
/-! The commands that do write a retained item, the records of LOAD PATH, and O5, O10 and O11. -/

namespace Sys2Proof.Machine

/-! ### The bytes of a LOAD PATH (R9, R183) -/

theorem length_records : ∀ (n : Nat) (bs : List Byte), (records n bs).length = n
  | 0, _ => rfl
  | n + 1, _ => congrArg (· + 1) (length_records n _)

/-- The records of a payload are its bytes, 20 to a record. -/
theorem flatten_records : ∀ (n : Nat) (bs : List Byte), (records n bs).flatten = bs.take (Config.recordBytes * n)
  | 0, _ => rfl
  | n + 1, bs => by
    rw [records, List.flatten_cons, flatten_records n, Nat.mul_succ, Nat.add_comm, List.take_add]

/-- What a request read as LOAD PATH carries: two bytes of start index and whole records. -/
theorem parse_eq_loadPath {r : Request} {start : Nat} {rs : List (List Byte)} (h : r.parse = .loadPath start rs) :
    r.payload.length = 2 + 20 * rs.length ∧ rs.flatten = r.payload.drop 2 := by
  unfold Request.parse at h
  dsimp only at h
  split at h <;> (try split at h) <;> simp only [reduceCtorEq, Parsed.loadPath.injEq] at h
  rename_i hn
  obtain ⟨hlen, hmod⟩ := hn
  obtain ⟨-, rfl⟩ := h
  rw [Config.recordBytes] at *
  refine ⟨by rw [length_records]; omega, ?_⟩
  rw [flatten_records, List.take_of_length_le]
  rw [List.length_drop, Config.recordBytes]; omega

theorem length_flatten_of_parse {r : Request} {start : Nat} {rs : List (List Byte)}
    (h : r.parse = .loadPath start rs) : rs.flatten.length = 20 * rs.length := by
  obtain ⟨hlen, hfl⟩ := parse_eq_loadPath h
  rw [hfl, List.length_drop]; omega

/-- What the request that may be taken asks, as its request reads. -/
theorem taking_eq_some {s : State} {q : Parsed} : s.taking = some q ↔ ∃ r, s.front = some r ∧ r.parse = q :=
  Option.map_eq_some_iff

/-- A LOAD PATH of `n` records from `start` names a locked record. -/
theorem names_locked {start n : Nat} {locks : List Nat} :
    (loadTargets start n).any (· ∈ locks) = true ↔ ∃ i ∈ locks, start ≤ i ∧ i < start + n := by
  simp only [loadTargets, List.any_map, List.any_eq_true, List.mem_range, Function.comp_apply, decide_eq_true_eq]
  constructor
  · rintro ⟨k, hk, hl⟩; exact ⟨_, hl, by omega, by omega⟩
  · rintro ⟨i, hl, h1, h2⟩; exact ⟨i - start, by omega, by rwa [show start + (i - start) = i by omega]⟩

variable (s : State)

/-- All that LOAD PATH can do: an answer alone, or its records written where none is locked outside IDLE and no index
passes 4095. -/
theorem execLoadPath_cases :
    (∃ t, execLoadPath s = .next t ∧ Keeps s t) ∨
    ∃ (r : Request) (start : Nat) (rs : List (List Byte)), s.front = some r ∧ r.parse = .loadPath start rs ∧
      start + rs.length ≤ 4096 ∧
      s.seq.station ∈ [Station.listen, .idle, .run, .held] ∧
      (s.seq.station = .idle ∨ ∀ i ∈ s.locks, i < start ∨ start + rs.length ≤ i) ∧
      execLoadPath s = .next (answer .ok [] (writeRecords start rs s)) := by
  unfold execLoadPath
  split
  · rename_i start rs ht
    obtain ⟨r, hr, hp⟩ := taking_eq_some.1 ht
    unfold jobGate
    split
    · exact .inl ⟨_, rfl, by simp⟩
    · split
      · rename_i hin
        split
        · exact .inl ⟨_, rfl, by simp⟩
        · dsimp only
          split
          · exact .inl ⟨_, rfl, by simp⟩
          · rename_i hrange hlock
            refine .inr ⟨r, start, rs, hr, hp, by omega, hin, ?_, rfl⟩
            rw [names_locked] at hlock
            by_cases hi : s.seq.station = .idle
            · exact .inl hi
            · refine .inr fun i hil => ?_
              exact Classical.byContradiction fun hc => hlock ⟨hi, i, hil, by omega, by omega⟩
      · exact .inl ⟨_, rfl, by simp⟩
  · exact .inl ⟨_, rfl, by simp⟩

theorem execLoadPath_keeps : Answers (fun t => Keeps (s.setStore t.store) t) (execLoadPath s) := by
  obtain ⟨t, ht, h1, -, h3⟩ | ⟨r, start, rs, -, -, -, -, -, ht⟩ := execLoadPath_cases s <;> rw [ht, answers_next]
  · exact ⟨h1, rfl, h3⟩
  · exact keeps_answer _ _ (Keeps.refl _)

theorem execClearStore_keeps :
    Answers (fun t => Keeps ((s.setStore t.store).setConds t.conds) t) (execClearStore s) := by
  rw [execClearStore, answers_next]
  split
  · unfold jobGate; (repeat' split) <;> exact keeps_answer _ _ ⟨rfl, rfl, rfl, rfl, rfl, id⟩
  · exact Keeps.refl s

theorem execLoadCondition_keeps : Answers (fun t => Keeps (s.setConds t.conds) t) (execLoadCondition s) := by
  rw [execLoadCondition, answers_next]
  split
  · unfold jobGate; (repeat' split) <;> exact keeps_answer _ _ ⟨rfl, rfl, rfl, rfl, rfl, id⟩
  · exact Keeps.refl s

theorem execSetup_keeps : Answers (fun t => Keeps (s.setSetup t.setup) t) (execSetup s) := by
  rw [execSetup, answers_next]
  split
  · unfold jobGate; (repeat' split) <;> exact keeps_answer _ _ ⟨rfl, rfl, rfl, rfl, rfl, id⟩
  · exact Keeps.refl s

theorem restart_bounded (straps : Straps) : (restart straps s).bounded := by
  simp [State.bounded, restart, State.poweredOn, JobLink.poweredOn]

theorem execPowerOn_keeps (n p f) :
    Answers (fun t => Keeps { s with straps := t.straps } t) (execPowerOn n p f s) := by
  have hm : Keeps (restart ⟨n, p, f⟩ s) (reportMark (restart ⟨n, p, f⟩ s)) := by
    unfold reportMark; split <;> simp
  rw [execPowerOn, answers_next]
  have hk := keeps_recomputeAllowances.2 (keeps_interruptFound .power hm)
  generalize recomputeAllowances _ = t at hk ⊢
  obtain ⟨-, h2, h3, h4, h5, h6⟩ := hk
  exact ⟨rfl, h2, h3, h4, h5, fun _ => h6 (restart_bounded s _)⟩

theorem execServoPeriodExpiry_keeps :
    Answers (fun t => Keeps (s.modExe fun e => { e with position := t.exe.position }) t)
      (execServoPeriodExpiry s) := by
  rw [execServoPeriodExpiry, answers_next]
  split
  · exact Keeps.refl s
  · obtain ⟨h1, h2, h3, h4, -⟩ := servoExpiry_frame s
    exact ⟨h1, h2, h3, h4, rfl, fun h => servoExpiry_bounded (s := s) h⟩

end Sys2Proof.Machine
end

section
open Sys2Proof Sys2Proof.Machine

/-- Settles O11: every command but the six writers keeps all five items, and each writer keeps all but its own. -/
theorem retainedItemsHaveTheirWriters : Obligations.RetainedItemsHaveTheirWriters := by
  intro c s t ht
  by_cases hc : writesRetained c = false
  · obtain ⟨h1, h2, h3, h4, h5, -⟩ := exec_keeps s c hc t ht
    exact ⟨fun _ _ => h2, fun _ _ => h3, fun _ => h4, fun _ => h5, fun _ => h1⟩
  · cases c <;> simp only [writesRetained, not_true_eq_false, Bool.true_eq_false, not_false_eq_true] at hc
    case powerOn n p f =>
      obtain ⟨-, h2, h3, h4, h5, -⟩ := execPowerOn_keeps s n p f t ht
      exact ⟨fun _ _ => h2, fun _ _ => h3, fun _ => h4, fun _ => h5, fun h => absurd rfl (h n p f)⟩
    case setup =>
      obtain ⟨h1, h2, h3, -, h5, -⟩ := execSetup_keeps s t ht
      exact ⟨fun _ _ => h2, fun _ _ => h3, fun h => absurd rfl h, fun _ => h5, fun _ => h1⟩
    case loadCondition =>
      obtain ⟨h1, h2, -, h4, h5, -⟩ := execLoadCondition_keeps s t ht
      exact ⟨fun _ _ => h2, fun h => absurd rfl h, fun _ => h4, fun _ => h5, fun _ => h1⟩
    case loadPath =>
      obtain ⟨h1, -, h3, h4, h5, -⟩ := execLoadPath_keeps s t ht
      exact ⟨fun h => absurd rfl h, fun _ _ => h3, fun _ => h4, fun _ => h5, fun _ => h1⟩
    case clearStore =>
      obtain ⟨h1, -, -, h4, h5, -⟩ := execClearStore_keeps s t ht
      exact ⟨fun _ h => absurd rfl h, fun _ h => absurd rfl h, fun _ => h4, fun _ => h5, fun _ => h1⟩
    case servoPeriodExpiry =>
      obtain ⟨h1, h2, h3, h4, -⟩ := execServoPeriodExpiry_keeps s t ht
      exact ⟨fun _ _ => h2, fun _ _ => h3, fun _ => h4, fun h => absurd rfl h, fun _ => h1⟩
end

section
namespace Sys2Proof.Machine

/-- Every command keeps the sizes of the queues. -/
theorem exec_bounded {c : Instr} {s t : State} (ht : exec c s = .next t) (hs : s.bounded) : t.bounded := by
  by_cases hc : writesRetained c = false
  · exact (exec_keeps s c hc t ht).bounded hs
  · cases c <;> simp only [writesRetained, not_true_eq_false, Bool.true_eq_false, not_false_eq_true] at hc
    case powerOn n p f => exact (execPowerOn_keeps s n p f t ht).bounded hs
    case setup => exact (execSetup_keeps s t ht).bounded hs
    case loadCondition => exact (execLoadCondition_keeps s t ht).bounded hs
    case loadPath => exact (execLoadPath_keeps s t ht).bounded hs
    case clearStore => exact (execClearStore_keeps s t ht).bounded hs
    case servoPeriodExpiry => exact (execServoPeriodExpiry_keeps s t ht).bounded hs

/-- CLEAR STORE empties the store in IDLE, and else leaves it. -/
theorem execClearStore_store {s t : State} (ht : execClearStore s = .next t) :
    t.store = s.store ∨ (s.seq.station = .idle ∧ t.store = []) := by
  have h : Answers (fun t => t.store = s.store ∨ (s.seq.station = .idle ∧ t.store = [])) (execClearStore s) := by
    rw [execClearStore, answers_next]
    split
    · unfold jobGate
      split
      · exact .inl rfl
      · split
        · rename_i hidle
          exact .inr ⟨List.mem_singleton.1 hidle, rfl⟩
        · exact .inl rfl
    · exact .inl rfl
  exact h t ht

/-- All that a command can do to the store: nothing, LOAD PATH's records, or CLEAR STORE's clearing in IDLE. -/
theorem exec_store {c : Instr} {s t : State} (ht : exec c s = .next t) :
    t.store = s.store ∨ (s.seq.station = .idle ∧ t.store = []) ∨
    ∃ (r : Request) (start : Nat) (rs : List (List Byte)), r.parse = .loadPath start rs ∧
      start + rs.length ≤ 4096 ∧ s.seq.station ∈ [Station.listen, .idle, .run, .held] ∧
      (s.seq.station = .idle ∨ ∀ i ∈ s.locks, i < start ∨ start + rs.length ≤ i) ∧
      t.store = storeWriteAll s.store (start * 20) rs.flatten := by
  obtain ⟨hstore, -⟩ := retainedItemsHaveTheirWriters c s t ht
  by_cases hl : c = .loadPath
  · subst hl
    obtain ⟨u, hu, hk⟩ | ⟨r, start, rs, -, hp, hi, hst, hlk, hu⟩ := execLoadPath_cases s
    · cases hu.symm.trans ht; exact .inl hk.store
    · cases hu.symm.trans ht; exact .inr (.inr ⟨r, start, rs, hp, hi, hst, hlk, rfl⟩)
  · by_cases hc : c = .clearStore
    · subst hc
      exact (execClearStore_store ht).imp_right .inl
    · exact .inl (hstore hl hc)

theorem exec_storeWf {c : Instr} {s t : State} (ht : exec c s = .next t) (hs : s.storeWf) : t.storeWf := by
  unfold State.storeWf at *
  obtain h | ⟨-, h⟩ | ⟨r, start, rs, hp, hi, -, -, h⟩ := exec_store ht <;> rw [h]
  · exact hs
  · exact Store.wf_nil
  · refine Store.wf_storeWriteAll ?_ hs
    rw [length_flatten_of_parse hp, storeBytes, Config.storeRecords, Config.recordBytes]; omega

/-- A step runs a command on the state with the queue's rest, or idles. -/
theorem step_cases {s t : State} (ht : step s = .next t) :
    t = s ∨ ∃ c rest, s.pending = c :: rest ∧ exec c (s.setPending rest) = .next t := by
  unfold step at ht
  split at ht
  · exact .inl (by cases ht; rfl)
  · exact .inr ⟨_, _, ‹_›, ht⟩

end Sys2Proof.Machine

open Sys2Proof Sys2Proof.Machine

/-- Settles O5: each part is a fact about every command, carried to the step. -/
theorem stepKeepsStoreAndQueueSizes : Obligations.StepKeepsStoreAndQueueSizes := by
  refine ⟨fun s t hs ht => ?_, fun s t hs ht => ?_⟩ <;>
    obtain rfl | ⟨c, rest, -, hc⟩ := step_cases ht
  · exact hs
  · exact exec_storeWf hc hs
  · exact hs
  · exact exec_bounded hc hs

/-- Settles O10: outside IDLE the store is written by LOAD PATH alone, which names no locked record there, and in
HALTED it is not taken. -/
theorem lockedRecordsStand : Obligations.LockedRecordsStand := by
  refine ⟨fun c s t hwf hst ht i hi k hk => ?_, fun c s t hst ht => ?_⟩
  · have hne : s.seq.station ≠ .idle := by rcases hst with h | h <;> simp [h]
    obtain h | ⟨hidle, -⟩ | ⟨r, start, rs, hp, hr, -, hlk, h⟩ := exec_store ht
    · rw [h]
    · exact absurd hidle hne
    · have hfree := hlk.resolve_left hne i hi
      have hlen := length_flatten_of_parse hp
      rw [h, storeRead_storeWriteAll ?_ hwf, if_neg]
      · omega
      · rw [hlen, storeBytes, Config.storeRecords, Config.recordBytes]; omega
  · obtain h | ⟨hidle, -⟩ | ⟨r, start, rs, -, -, hin, -⟩ := exec_store ht
    · exact h
    · rw [hst] at hidle; cases hidle
    · rw [hst] at hin; simp at hin
end

section
/-! The state after reset (O3, O4), and the reading of CALL, END, COND and TAB (O43). -/

namespace Sys2Proof.Machine

/-- A field of an empty store holds 0 in every byte. -/
theorem storeField_nil (a : Nat) : ∀ n, storeField [] a n = List.replicate n 0
  | 0 => rfl
  | n + 1 => by rw [storeField, storeField_nil (a + 1) n, List.replicate_succ]; rfl

/-- Every record of an empty store is EMPTY. -/
theorem record_of_store_nil {s : State} (h : s.store = []) (i : PathIndex) : s.record i = .empty := by
  rw [State.record, h, storeField_nil]
  rfl

theorem reset_peer (n : StationNo) : State.reset.peer n = none := by
  simp [State.peer, State.reset, State.poweredOn, Coordination.poweredOn]

theorem reset_filter (i : Input) : State.reset.filters.get i = Filter.poweredOn := by
  cases i <;> rfl

/-! ### What taking one record gives -/

variable {e : Emission} {p : ReadPoint}

theorem takeCall_full {target reps dx dy} (h : p.stack.length = 15) :
    takeCall p target reps dx dy = .fault .nesting := by
  simp [takeCall, h, Config.maxDepth]

theorem takeCall_outside {target reps dx dy} (h : p.stack.length < 15) (ht : 4096 ≤ target) :
    takeCall p target reps dx dy = .fault .invalidRecord := by
  rw [takeCall, Config.maxDepth, if_neg (Nat.not_le.2 h), dif_neg (Nat.not_lt.2 ht)]

theorem takeCall_enters (target : PathIndex) (reps dx dy) (h : p.stack.length < 15) :
    takeCall p target.val reps dx dy =
      .on { p with position := target
                   stack := ⟨p.position + 1, target, if reps = 0 then 256 else reps, 0, ⟨dx, dy⟩, p.offset⟩ ::
                     p.stack } := by
  rw [takeCall, Config.maxDepth, if_neg (Nat.not_le.2 h), dif_pos target.isLt]

theorem takeEnd_repeats {f rest} (hs : p.stack = f :: rest) (h : f.index + 1 < f.repeats) :
    takeEnd p =
      .on { p with position := f.target
                   offset := ⟨f.base.x + (f.index + 1 : Nat) * f.step.x, f.base.y + (f.index + 1 : Nat) * f.step.y⟩
                   stack := { f with index := f.index + 1 } :: rest } := by
  rw [takeEnd, hs]; exact if_pos h

theorem takeEnd_returns {f rest} (hs : p.stack = f :: rest) (h : f.repeats ≤ f.index + 1) :
    takeEnd p = .on { p with position := f.ret, offset := f.base, stack := rest } := by
  rw [takeEnd, hs]; exact if_neg (Nat.not_lt.2 h)

theorem takeEnd_stops (hs : p.stack = []) : takeEnd p = .stop false p.next := by
  rw [takeEnd, hs]

theorem takeCond_sets (c : CondNo) : takeCond p c.val = .on { p with position := p.position + 1, cond := c } := by
  rw [takeCond, dif_pos c.isLt]; rfl

theorem takeCond_outside {index} (h : 16 ≤ index) : takeCond p index = .fault .invalidRecord := by
  rw [takeCond, dif_neg (Nat.not_lt.2 h)]

theorem takeTab_stops (hs : p.stack = []) (hp : e.pass ≠ .separation) (hr : e.record.retain = true) :
    takeTab e p = .stop true p.next := if_pos ⟨hs, hp, hr⟩

theorem takeTab_passes (h : p.stack ≠ [] ∨ e.pass = .separation ∨ e.record.retain = false) :
    takeTab e p = .on p.next := by
  refine if_neg ?_
  rintro ⟨hs, hp, hr⟩
  rcases h with h | h | h
  · exact h hs
  · exact hp h
  · rw [hr] at h; cases h

/-- No record read on leaves a deeper stack than 15: a CALL is taken below that depth, an END keeps or drops a frame,
and the other records leave the stack. -/
theorem takeRecord_depth {r q} (hd : p.stack.length ≤ 15) (h : takeRecord e p r = .on q) : q.stack.length ≤ 15 := by
  cases r with
  | empty | unassigned => cases h
  | line x y =>
    simp only [takeRecord, takeLine] at h
    split at h
    · cases h
    · split at h
      · cases h; exact hd
      · repeat' split at h
        all_goals cases h
  | arc cw x y cx cy =>
    simp only [takeRecord, takeArc] at h
    repeat' split at h
    all_goals cases h
  | call target reps dx dy =>
    simp only [takeRecord, takeCall, Config.maxDepth] at h
    by_cases h15 : 15 ≤ p.stack.length
    · rw [if_pos h15] at h; cases h
    · rw [if_neg h15] at h
      split at h <;> cases h
      exact Nat.not_le.1 h15
  | cond index =>
    simp only [takeRecord, takeCond] at h
    split at h
    · cases h; exact hd
    · cases h
  | tab =>
    simp only [takeRecord, takeTab] at h
    split at h
    · cases h
    · cases h; exact hd
  | fin =>
    simp only [takeRecord, takeEnd] at h
    split at h
    · cases h
    · rename_i f rest hs
      rw [hs, List.length_cons] at hd
      split at h
      · cases h; exact hd
      · cases h; exact Nat.le_of_succ_le hd

end Sys2Proof.Machine

open Sys2Proof Sys2Proof.Machine

/-- Settles O3: every value stands in the state as `State.poweredOn` writes it. -/
theorem resetLeavesPowerOnValues : Obligations.ResetLeavesPowerOnValues := by
  refine ⟨record_of_store_nil rfl, rfl, rfl, ?_, ?_, rfl, rfl, ?_, ?_, ?_, ?_, ?_, reset_peer, rfl, rfl, rfl, rfl,
    rfl, rfl, rfl, rfl, rfl, rfl, rfl, ?_, rfl, rfl, rfl, rfl, rfl, rfl, rfl⟩
  case refine_7 => intro i; rw [reset_filter]; exact ⟨rfl, rfl, rfl⟩
  all_goals and_intros <;> rfl

/-- Settles O4: reset has no claim, no level and no entry, so each invariant's terms are 0, off or empty. -/
theorem resetMeetsInvariants : Obligations.ResetMeetsInvariants := by
  refine ⟨rfl, ?_, ?_, ?_, ?_, reset_peer _⟩
  · unfold State.settled; decide
  · exact ⟨Nat.le_refl _, Nat.le_refl _, fun n h => nomatch h⟩
  · unfold State.bounded; decide
  · unfold State.threaderSafe; decide

/-- Settles O43, record by record. -/
theorem callsReturnAndStayWithinDepth : Obligations.CallsReturnAndStayWithinDepth := fun _ _ =>
  ⟨fun _ _ _ _ => takeCall_full, fun _ _ _ _ => takeCall_outside, takeCall_enters, fun _ _ => takeEnd_repeats,
    fun _ _ => takeEnd_returns, takeCond_sets, fun _ => takeCond_outside, takeTab_stops, takeTab_passes,
    fun _ _ => takeRecord_depth⟩
end

section
/-! What a request is answered (R170, R171), and LOAD PATH (O22). -/

namespace Sys2Proof.Machine

variable {s : State} {r : Request}

/-- The request that may be taken stands at the front of the buffer, with no walk and no POWER_DOWN. -/
theorem front_eq_some : s.front = some r ↔
    s.seq.station ≠ .powerDown ∧ s.link.response = none ∧ s.walking = false ∧ s.link.buffer.head? = some r := by
  unfold State.front
  split
  · rename_i h
    simp only [reduceCtorEq, false_iff]
    rintro ⟨h1, h2, h3, -⟩
    rcases h with h | h | h
    · exact h1 h
    · rw [h2] at h; cases h
    · rw [h3] at h; cases h
  · rename_i h
    simp only [not_or, Bool.not_eq_true, Option.isSome_eq_false_iff, Option.isNone_iff_eq_none] at h
    simp [h]

theorem head_of_front (h : s.front = some r) : s.link.buffer.head? = some r := by
  obtain ⟨-, -, -, hb⟩ := front_eq_some.1 h
  exact hb

theorem taking_of_front (h : s.front = some r) : s.taking = some r.parse := by
  rw [State.taking, h]; rfl

/-- An answer changes the job link alone, to the response of the request at the front. -/
theorem answer_eq (h : s.link.buffer.head? = some r) (st : Status) (payload : List Byte) :
    answer st payload s = { s with link := s.answering r st payload } := by
  simp only [answer, State.modLink, State.answering, h, Option.map_some]

theorem jobGate_takes {takenIn : List Station} {body : State → State} (hin : s.seq.station ∈ takenIn)
    (hh : s.seq.station ≠ .halted) : jobGate takenIn body s = body s := by
  rw [jobGate, if_neg hh, if_pos hin]

/-! ### LOAD PATH by its checks -/

variable {start : Nat} {rs : List (List Byte)}

/-- LOAD PATH in a state that takes it: the range check, then the lock check, then the write. -/
theorem execLoadPath_takes (hf : s.front = some r) (hp : r.parse = .loadPath start rs)
    (hst : s.seq.station = .listen ∨ s.seq.station = .idle ∨ s.seq.station = .run ∨ s.seq.station = .held) :
    execLoadPath s = .next
      (if rs.length = 0 ∨ 16 < rs.length ∨ 4096 < start + rs.length then answer .refusedRange [] s
       else if s.seq.station ≠ .idle ∧ ∃ i ∈ s.locks, start ≤ i ∧ i < start + rs.length then
         answer .refusedLocked [] s
       else answer .ok [] (writeRecords start rs s)) := by
  rw [execLoadPath, taking_of_front hf, hp]
  simp only [names_locked]
  rw [jobGate_takes]
  · simpa using hst
  · rcases hst with h | h | h | h <;> rw [h] <;> decide

/-- What stands at an address after the records of a request are written (R9). -/
theorem storeRead_writeRecords (hp : r.parse = .loadPath start rs) (hwf : s.storeWf) (hi : start + rs.length ≤ 4096)
    (a : Nat) :
    storeRead (writeRecords start rs s).store a =
      if 20 * start ≤ a ∧ a < 20 * (start + rs.length) then r.payload.getD (2 + (a - 20 * start)) 0
      else storeRead s.store a := by
  obtain ⟨-, hfl⟩ := parse_eq_loadPath hp
  have hlen := length_flatten_of_parse hp
  have hb : start * Config.recordBytes = 20 * start := Nat.mul_comm _ _
  rw [writeRecords, State.setStore_store, hb,
    storeRead_storeWriteAll (by rw [hlen, storeBytes, Config.storeRecords, Config.recordBytes]; omega) hwf,
    hlen, Nat.mul_add]
  congr 1
  rw [hfl, List.getD_eq_getElem?_getD, List.getD_eq_getElem?_getD, List.getElem?_drop]

end Sys2Proof.Machine

open Sys2Proof Sys2Proof.Machine

/-- Settles O22: the checks in their order, each with its answer, and the bytes of the write. -/
theorem loadPathWritesItsRecordsOrNothing : Obligations.LoadPathWritesItsRecordsOrNothing := by
  refine ⟨fun s r start rs hwf hf hp hst h1 h16 hi hfree => ?_, fun s r start rs hf hp hst => ⟨fun hbad => ?_,
    fun h1 h16 hi hidle hlock => ?_⟩⟩
  all_goals
    have hx : exec .loadPath s = _ := execLoadPath_takes hf hp hst
  · refine ⟨answer .ok [] (writeRecords start rs s), ?_,
      answer_eq (s := writeRecords start rs s) (head_of_front hf) _ _, fun a ha => ?_, fun a ha hb => ?_⟩
    · rw [hx, if_neg (by omega), if_neg]
      rintro ⟨hne, i, hil, hlo, hhi⟩
      have := hfree.resolve_left hne i hil
      omega
    · exact (storeRead_writeRecords hp hwf hi a).trans (if_neg (by omega))
    · exact (storeRead_writeRecords hp hwf hi a).trans (if_pos ⟨ha, hb⟩)
  · rw [hx, if_pos hbad, answer_eq (head_of_front hf)]
  · rw [hx, if_neg (by omega), if_pos ⟨hidle, hlock⟩, answer_eq (head_of_front hf)]
end

section
/-! What an event's end and the interruption of parts leave; POWER_ON and the listen timer (O16), halts (O46). -/

namespace Sys2Proof.Machine

variable {b s t u : State}

/-- Two states that agree in every block are one. -/
theorem State.eq_of_fields {s t : State} (h1 : s.straps = t.straps) (h2 : s.store = t.store) (h3 : s.conds = t.conds)
    (h4 : s.nest = t.nest) (h5 : s.setup = t.setup) (h6 : s.locks = t.locks) (h7 : s.walking = t.walking)
    (h8 : s.seq = t.seq) (h9 : s.fetch = t.fetch) (h10 : s.queue = t.queue) (h11 : s.history = t.history)
    (h12 : s.gap = t.gap) (h13 : s.gen = t.gen) (h14 : s.exe = t.exe) (h15 : s.thr = t.thr)
    (h16 : s.filters = t.filters) (h17 : s.coord = t.coord) (h18 : s.port = t.port) (h19 : s.link = t.link)
    (h20 : s.reports = t.reports) (h21 : s.now = t.now) (h22 : s.raised = t.raised)
    (h23 : s.pending = t.pending) : s = t := by
  cases s; cases t
  subst h1 h2 h3 h4 h5 h6 h7 h8 h9 h10 h11 h12 h13 h14 h15 h16 h17 h18 h19 h20 h21 h22 h23
  rfl

/-! ### What a settled end leaves as the event had it -/

/-- A calm state is told by its waiting mismatch events and Threader Control. -/
theorem calm_congr (hr : t.raised = s.raised) (ht : t.thr.phase = s.thr.phase) : t.calm ↔ s.calm := by
  rw [State.calm, State.calm, hr, ht]

/-- The blocks that the end of an event does not write. -/
theorem settles_rest (h : State.settles b u t) :
    t.seq = u.seq ∧ t.thr = u.thr ∧ t.exe = u.exe ∧ t.locks = u.locks ∧ t.walking = u.walking ∧
      t.nest = u.nest ∧ t.coord.jet = u.coord.jet := by
  obtain ⟨h1, -, -, -, -, -, h7, -⟩ := h
  refine ⟨?_, ?_, ?_, ?_, ?_, ?_, ?_⟩
  case refine_7 => rw [h7]
  all_goals rw [h1]

/-- With no activity that cuts, a settled state has the generator off and L at 0. -/
theorem settled_idle (h : t.settled) (ha : isCutting t.seq.activity = false) :
    t.gen.on = false ∧ t.gen.level = 0 := by
  obtain ⟨-, -, htarget, hlevel, -, -, hon, -, -⟩ := h
  have hz : t.levelTarget = 0 := by simp [State.levelTarget, State.cuttingNow, ha]
  refine ⟨by simp [hon, State.generatorAllowed, ha], ?_⟩
  rw [htarget, hz] at hlevel
  exact Nat.le_zero.1 hlevel

/-! ### Part records -/

theorem modPart_part_self (p : PartNo) (f : PartRecord → PartRecord) (s : State) :
    (modPart p f s).part p = f (s.part p) := by
  simp [modPart, State.part]

theorem modPart_part_ne {p q : PartNo} (h : q ≠ p) (f : PartRecord → PartRecord) (s : State) :
    (modPart p f s).part q = s.part q := by
  have hv : p.val ≠ q.val := fun hc => h (Fin.ext hc.symm)
  simp [modPart, State.part, hv]

/-- A report where the queue has room. -/
theorem queueReport_room (h : s.reports.items.length < Config.reportSize) (k p c d) :
    (queueReport k p c d s).reports =
      { s.reports with items := s.reports.items ++ [⟨k, p, c, d % 2 ^ 32, s.now % 2 ^ 32⟩] } :=
  if_pos h

/-! ### Interrupting the parts found at work (R16, R37) -/

theorem interrupted_working (r : PartRecord) : r.interrupted.working = false := rfl

theorem interrupt_part (c : Cause) (p q : PartNo) (s : State) :
    (interrupt c p s).part q = if q = p then (s.part p).interrupted else s.part q := by
  show (modPart p PartRecord.interrupted s).part q = _
  split
  · rename_i h; rw [h, modPart_part_self]
  · rename_i h; rw [modPart_part_ne h]

/-- The PART report of an interruption. -/
theorem interrupt_reports (c : Cause) (p : PartNo) (h : s.reports.items.length < Config.reportSize) :
    (interrupt c p s).reports =
      { s.reports with
        items := s.reports.items ++
          [⟨.part, some p, some c, 2 + 256 * passCode (s.part p).pass, s.now % 2 ^ 32⟩] } := by
  have hp : (modPart p PartRecord.interrupted s).part p = (s.part p).interrupted := modPart_part_self _ _ _
  have hcode : passCode (s.part p).pass ≤ 4 := by
    cases hpass : (s.part p).pass with
    | none => exact Nat.zero_le _
    | some a => cases a <;> decide
  have hd : ((s.part p).interrupted.state.code + 256 * passCode (s.part p).interrupted.pass) % 2 ^ 32 =
      2 + 256 * passCode (s.part p).pass := by
    show (2 + 256 * passCode (s.part p).pass) % 2 ^ 32 = _
    exact Nat.mod_eq_of_lt (by omega)
  rw [interrupt, partReport, queueReport_room (by simpa using h), hp, hd]
  rfl

theorem interrupt_rest (c : Cause) (p : PartNo) (s : State) :
    interrupt c p s = { s with nest := (interrupt c p s).nest, reports := (interrupt c p s).reports } := rfl

/-- Interrupt those of some parts that are found at work. -/
def interruptAmong (c : Cause) (l : List PartNo) (s : State) : State :=
  l.foldl (fun s p => if (s.part p).working then interrupt c p s else s) s

theorem interruptFound_eq (c : Cause) (s : State) : interruptFound c s = interruptAmong c allParts s := rfl

theorem interruptAmong_cons (c : Cause) (p : PartNo) (l : List PartNo) (s : State) :
    interruptAmong c (p :: l) s = interruptAmong c l (if (s.part p).working then interrupt c p s else s) := rfl

theorem interruptAmong_rest (c : Cause) (l : List PartNo) (s : State) :
    interruptAmong c l s =
      { s with nest := (interruptAmong c l s).nest, reports := (interruptAmong c l s).reports } := by
  induction l generalizing s with
  | nil => rfl
  | cons p l ih =>
    rw [interruptAmong_cons, ih]
    split <;> rfl

/-- Each of the parts that was at work is INTERRUPTED, and every other part stands. -/
theorem interruptAmong_part (c : Cause) {l : List PartNo} (hl : l.Nodup) (s : State) (q : PartNo) :
    (interruptAmong c l s).part q =
      if q ∈ l ∧ (s.part q).working then (s.part q).interrupted else s.part q := by
  induction l generalizing s with
  | nil => simp [interruptAmong]
  | cons p l ih =>
    obtain ⟨hp, hl⟩ := List.nodup_cons.1 hl
    rw [interruptAmong_cons, ih hl]
    by_cases hw : (s.part p).working = true
    · rw [if_pos hw, interrupt_part]
      by_cases hq : q = p
      · subst hq; simp [hp, hw]
      · simp [hq]
    · rw [if_neg hw]
      by_cases hq : q = p
      · subst hq; simp [hp, hw]
      · simp [hq]

/-- Their PART reports, in order, where the queue has room for them. -/
theorem interruptAmong_reports (c : Cause) {l : List PartNo} (hl : l.Nodup) (s : State)
    (hroom : s.reports.items.length + (l.filter fun q => (s.part q).working).length ≤ Config.reportSize) :
    (interruptAmong c l s).reports =
      { s.reports with
        items := s.reports.items ++ (l.filter fun q => (s.part q).working).map fun q =>
          ⟨.part, some q, some c, 2 + 256 * passCode (s.part q).pass, s.now % 2 ^ 32⟩ } := by
  induction l generalizing s with
  | nil => simp [interruptAmong]
  | cons p l ih =>
    obtain ⟨hp, hl⟩ := List.nodup_cons.1 hl
    rw [interruptAmong_cons]
    by_cases hw : (s.part p).working = true
    · rw [List.filter_cons_of_pos (by simpa using hw), List.length_cons] at hroom
      have hpart : ∀ q ∈ l, (interrupt c p s).part q = s.part q := fun q hq => by
        rw [interrupt_part]; exact if_neg (by rintro rfl; exact hp hq)
      have hfilter : (l.filter fun q => ((interrupt c p s).part q).working) = l.filter fun q => (s.part q).working :=
        List.filter_congr fun q hq => by rw [hpart q hq]
      have hrep := interrupt_reports (s := s) c p (by omega)
      rw [if_pos hw, ih hl, hfilter, hrep, List.filter_cons_of_pos (by simpa using hw)]
      · simp only [List.append_assoc, List.map_cons, List.cons_append, List.nil_append, interrupt_frame]
        congr 3
        exact List.map_congr_left fun q hq => by rw [hpart q (List.mem_filter.1 hq).1]
      · rw [hfilter, hrep, List.length_append, List.length_singleton]; omega
    · rw [List.filter_cons_of_neg (by simpa using hw)] at hroom ⊢
      rw [if_neg hw, ih hl _ hroom]

/-! ### POWER_ON -/

/-- The report of a power-down mark (R61). -/
def markReports : Option Mark → List Report
  | some m => [⟨.powerDown, m.part, none, m.station.code + 256 * activityCode m.activity, 0⟩]
  | none => []

theorem length_markReports (m : Option Mark) : (markReports m).length ≤ 1 := by
  cases m <;> simp [markReports]

/-- The part restarted, with the mark reported and absent. -/
theorem reportMark_restart (straps : Straps) (s : State) :
    reportMark (restart straps s) =
      { restart straps s with
        seq := Sequencer.poweredOn, reports := { items := markReports s.seq.mark, lost := 0 } } := by
  have hm : (restart straps s).seq.mark = s.seq.mark := rfl
  unfold reportMark
  rw [hm]
  cases h : s.seq.mark with
  | none => simp [restart, markReports, h, State.poweredOn, Sequencer.poweredOn]
  | some m =>
    have hd : m.station.code + 256 * activityCode m.activity < 4294967296 := by
      have h1 : m.station.code ≤ 5 := by cases m.station <;> decide
      have h2 : activityCode m.activity ≤ 7 := by
        cases m.activity with
        | none => exact Nat.zero_le _
        | some a => cases a <;> decide
      omega
    simp [queueReport, markReports, State.modReports, State.modSeq, restart, State.poweredOn, Config.reportSize,
      Sequencer.poweredOn, hd]

/-- An allowance with no peer. -/
theorem allowance_alone (b : Nat) : allowance .normal b 1 0 = min 15 b := by
  simp [allowance]

theorem allowances_alone (hp : s.coord.peers = Vector.replicate 8 none) (hm : s.coord.mode = .normal) :
    s.powerAllowance = min 15 (budget s.straps.power) ∧ s.flushAllowance = min 15 (budget s.straps.flush) := by
  have hf : s.freshPeers = [] := by
    simp [State.freshPeers, State.peer, hp]
  simp [State.powerAllowance, State.flushAllowance, State.sharers, hf, hm, allowance_alone]

/-- The allowances recomputed where the Coordination Unit is as after power-on. -/
theorem recomputeAllowances_alone (hc : s.coord = Coordination.poweredOn) :
    recomputeAllowances s =
      { s with coord := { Coordination.poweredOn with
          ap := min 15 (budget s.straps.power), af := min 15 (budget s.straps.flush) } } := by
  obtain ⟨hp, hf⟩ := allowances_alone (s := s) (by rw [hc]; rfl) (by rw [hc]; rfl)
  simp only [recomputeAllowances, State.modCoord, hp, hf, hc]

/-- POWER_ON's next state, with the part records and the reports that the interruptions leave. -/
theorem execPowerOn_next (n : Fin 8) (p f : Fin 16) (s : State) :
    ∃ (nest : Vector PartRecord 32) (reports : ReportQueue),
      execPowerOn n p f s = .next
        { State.poweredOn ⟨n, p, f⟩ with
          store := s.store, conds := s.conds, setup := s.setup, nest := nest, pending := s.pending
          exe := Executor.poweredOn s.exe.position, reports := reports
          coord := { Coordination.poweredOn with ap := min 15 (budget p), af := min 15 (budget f) } } ∧
      (∀ q : PartNo, nest[q] = if (s.part q).working then (s.part q).interrupted else s.part q) ∧
      (((List.finRange 32).filter fun q => (s.part q).working).length ≤ 31 →
        reports = ⟨markReports s.seq.mark ++ ((List.finRange 32).filter fun q => (s.part q).working).map fun q =>
          ⟨.part, some q, some .power, 2 + 256 * passCode (s.part q).pass, 0⟩, 0⟩) := by
  have hmark := reportMark_restart ⟨n, p, f⟩ s
  have hparts : ∀ q, (reportMark (restart ⟨n, p, f⟩ s)).part q = s.part q := fun q => by rw [hmark]; rfl
  have hpart := interruptAmong_part .power (List.nodup_finRange 32) (reportMark (restart ⟨n, p, f⟩ s))
  have hrep := interruptAmong_reports .power (List.nodup_finRange 32) (reportMark (restart ⟨n, p, f⟩ s))
  have hrest := interruptAmong_rest .power allParts (reportMark (restart ⟨n, p, f⟩ s))
  have hc : (interruptAmong .power allParts (reportMark (restart ⟨n, p, f⟩ s))).coord = Coordination.poweredOn := by
    rw [hrest, hmark]; rfl
  have hx : execPowerOn n p f s =
      .next (recomputeAllowances (interruptAmong .power allParts (reportMark (restart ⟨n, p, f⟩ s)))) := rfl
  rw [recomputeAllowances_alone hc] at hx
  rw [show List.finRange 32 = allParts from rfl] at *
  generalize interruptAmong .power allParts (reportMark (restart ⟨n, p, f⟩ s)) = t at *
  refine ⟨t.nest, t.reports, ?_, fun q => ?_, fun hroom => ?_⟩
  · rw [hx, hrest, hmark]; rfl
  · exact (hpart q).trans (by rw [hparts]; simp [allParts])
  · simp only [hparts] at hrep
    rw [hrep, hmark]
    · rfl
    · rw [hmark]
      exact Nat.add_le_add (length_markReports s.seq.mark) hroom

/-! ### The listen timer -/

theorem enterIdle_eq (s : State) :
    enterIdle s = { s with seq := { s.seq.ended .idle with window := s.seq.window }, locks := []
                           filters := s.filters.limitsFollowed } := by
  apply State.eq_of_fields <;> rfl

end Sys2Proof.Machine

open Sys2Proof Sys2Proof.Machine

/-- Settles O16: POWER_ON is the restart, then the mark's report, then the interruptions in ascending number; the
listen timer's expiry enters IDLE and settles. -/
theorem powerOnRestartsAndListens : Obligations.PowerOnRestartsAndListens := by
  refine ⟨fun n p f s => ?_, fun n p f s hroom => ?_, fun s left hst hl hcalm => ?_⟩
  · obtain ⟨nest, reports, hx, hpart, -⟩ := execPowerOn_next n p f s
    exact ⟨_, hx, rfl, hpart⟩
  · obtain ⟨nest, reports, hx, -, hrep⟩ := execPowerOn_next n p f s
    refine ⟨_, hx, rfl, ?_⟩
    rw [hrep hroom]
    exact ⟨rfl, by cases s.seq.mark <;> rfl⟩
  · have hu : ((enterIdle s).modSeq fun q => { q with listen := none }).calm :=
      (calm_congr (by simp) (by simp)).2 hcalm
    have hset := finish_settles _ s hu
    rw [enterIdle_eq] at hset
    refine ⟨_, ?_, hset, ?_⟩
    · show execListenTimerExpiry s = _
      rw [execListenTimerExpiry, if_pos ⟨hst, by rw [hl]; rfl⟩, enterIdle_eq]
    · obtain ⟨hseq, -⟩ := settles_rest hset
      rw [State.phase, hseq]; rfl
end

section
/-! Halts (O46). -/

namespace Sys2Proof.Machine

variable {s : State}

/-! ### What the shared stops leave, block by block -/

@[simp] theorem follow_filters (i : Input) (s : State) :
    (follow i s).filters = s.filters.put (s.filters.get i).followed i := rfl

theorem followWireInputs_filters (s : State) : (followWireInputs s).filters = s.filters.wireFollowed := by
  simp [followWireInputs, Filters.put, Filters.get, Filters.wireFollowed]

theorem followLimits_filters (s : State) : (followLimits s).filters = s.filters.limitsFollowed := by
  simp [followLimits, Filters.put, Filters.get, Filters.limitsFollowed]

theorem releaseJet_coord_eq (s : State) : (releaseJet s).coord = s.coord.released := rfl

theorem interruptCurrent_rest (c : Cause) (s : State) :
    interruptCurrent c s =
      { s with nest := (interruptCurrent c s).nest, reports := (interruptCurrent c s).reports } := by
  unfold interruptCurrent; split <;> rfl

/-- An interruption reads the part records, the current part, the reports and the clock. -/
theorem interruptCurrent_congr {t : State} (c : Cause) (hn : t.nest = s.nest) (hc : t.seq.current = s.seq.current)
    (hr : t.reports = s.reports) (ht : t.now = s.now) :
    (interruptCurrent c t).nest = (interruptCurrent c s).nest ∧
      (interruptCurrent c t).reports = (interruptCurrent c s).reports := by
  have hw : t.workingPart = s.workingPart := by simp [State.workingPart, State.part, hn, hc]
  unfold interruptCurrent
  rw [hw]
  split
  · simp [interrupt, partReport, queueReport, modPart, State.modNest, State.modReports, State.part, hn, hr, ht]
  · exact ⟨hn, hr⟩

theorem queueReport_reports_congr {s t : State} {k p c d} (hr : t.reports = s.reports) (hn : t.now = s.now) :
    (queueReport k p c d t).reports = (queueReport k p c d s).reports := by
  simp only [queueReport, State.modReports_reports, hr, hn]

/-- The stop of the work in the order of R58, up to the interruption. -/
theorem stopWork_eq (s : State) :
    closeWindow (stopThreader (flush s)) =
      { s with
        queue := [], history := [], fetch := Fetcher.flushed, exe := s.exe.cleared, thr := s.thr.stopped
        filters := s.filters.wireFollowed, coord := s.coord.released, seq := { s.seq with window := none } } := by
  apply State.eq_of_fields
  case h8 | h9 | h10 | h11 | h14 | h15 => rfl
  case h16 => simp [stopThreader, endAttempt, followWireInputs_filters, releaseOutputs]
  case h17 => simp [stopThreader, endAttempt, releaseJet_coord_eq, releaseOutputs]
  all_goals simp

/-- A halt with no walk in progress, but for DUPLICATE_STATION's silence, is the block shape of R58. -/
theorem haltStation_eq {code : HaltCode} (hc : code ≠ .duplicateStation) (hw : s.walking = false) :
    haltStation code s = s.afterHalt code := by
  have hwalk : endWalkHalted (closeWindow (stopThreader (flush s))) = closeWindow (stopThreader (flush s)) :=
    if_neg (by simp [hw])
  have hstop := stopWork_eq s
  obtain ⟨hn, hr⟩ := interruptCurrent_congr (s := s) (t := closeWindow (stopThreader (flush s))) .halt
    (by rw [hstop]) (by rw [hstop]) (by rw [hstop]) (by rw [hstop])
  unfold haltStation
  dsimp only
  rw [if_neg hc, hwalk]
  apply State.eq_of_fields
  case h4 => simpa [State.afterHalt, State.workStopped] using hn
  case h16 => rw [followLimits_filters]; simp [hstop, State.afterHalt]
  case h20 =>
    simp only [followLimits_frame, State.modSeq_reports, dropCurrent_frame]
    exact queueReport_reports_congr hr (by simp)
  case h8 =>
    simp only [followLimits_frame, State.modSeq_seq, dropCurrent, clearRecovery, queueReport_frame,
      interruptCurrent_frame, hstop]
    rfl
  all_goals simp [hstop, State.afterHalt, State.workStopped]

/-- A halt writes over what Threader Control has in hand and follows the inputs it finds. -/
theorem afterHalt_with {thr : Threader} (filters : Filters) (code : HaltCode) (h : thr.stopped = s.thr.stopped) :
    ({ s with thr := thr, filters := filters } : State).afterHalt code =
      { s.afterHalt code with filters := filters.wireFollowed.limitsFollowed } := by
  obtain ⟨hn, hr⟩ := interruptCurrent_congr (s := s) (t := { s with thr := thr, filters := filters }) .halt
    rfl rfl rfl rfl
  apply State.eq_of_fields
  case h4 => exact hn
  case h15 => exact h
  case h20 => exact queueReport_reports_congr hr (by simp)
  all_goals rfl

theorem afterHalt_calm {code : HaltCode} (h : s.raised = []) : (s.afterHalt code).calm :=
  ⟨h, fun hc => Phase.noConfusion hc⟩

/-! ### Two asserted samples of a watched input (R134, R135) -/

/-- The filter that has come to asserted, still expected clear. -/
def Filter.risen : Filter := ⟨.asserted, some .asserted, .clear⟩

theorem sample2_asserted {f : Filter} (h : f.idleClear) : f.sample2 .asserted .asserted = Filter.risen := by
  obtain ⟨hl, he⟩ := h
  simp [Filter.sample2, Filter.sample, Filter.risen, he]

/-- An input that was clear and comes to asserted gives its event, and an owner that watches for it acts. -/
theorem sampleInput_rise {i : Input} (hd : s.seq.station ≠ .powerDown) (h : (s.filters.get i).idleClear)
    (hw : (modFilter i (fun _ => Filter.risen) s).watches i .asserted = true) :
    sampleInput i .asserted .asserted s = finish s (actOn i .asserted (modFilter i (fun _ => Filter.risen) s)) := by
  have he : Filter.event (s.filters.get i) Filter.risen = some .asserted := by
    simp [Filter.event, Filter.risen, h.1]
  rw [sampleInput, if_neg hd]
  dsimp only
  rw [sample2_asserted h, he]
  exact if_pos hw

theorem inJob_of_job (h : s.seq.station = .run ∨ s.seq.station = .held) : s.inJob = true := by
  rcases h with h | h <;> simp [State.inJob, h]

/-! ### The three halts -/

/-- A halt that begins with one filter moved. -/
theorem haltStation_filter (i : Input) (g : Filter → Filter) {code : HaltCode} (hc : code ≠ .duplicateStation)
    (hw : s.walking = false) :
    haltStation code (modFilter i g s) =
      { s.afterHalt code with filters := (modFilter i g s).filters.wireFollowed.limitsFollowed } :=
  (haltStation_eq (s := modFilter i g s) hc hw).trans (afterHalt_with (s := s) (thr := s.thr) _ _ rfl)

theorem limitInput_halts (hj : s.seq.station = .run ∨ s.seq.station = .held) (hw : s.walking = false)
    (h : s.filters.limit.idleClear) :
    sampleInput .limit .asserted .asserted s = finish s
      { s.afterHalt .travelLimit with
        filters := ({ s.filters with limit := Filter.steady .asserted .asserted } : Filters).wireFollowed.limitsFollowed
      } := by
  rw [sampleInput_rise (i := .limit) (by rcases hj with hj | hj <;> simp [hj]) h (inJob_of_job hj)]
  exact congrArg (finish s) (haltStation_filter .limit _ (by decide : HaltCode.travelLimit ≠ .duplicateStation) hw)

theorem wireLowInput_halts (hj : s.seq.station = .run ∨ s.seq.station = .held) (hw : s.walking = false)
    (h : s.filters.wireLow.idleClear) :
    sampleInput .wireLow .asserted .asserted s = finish s
      { s.afterHalt .wireExhausted with
        filters :=
          ({ s.filters with wireLow := Filter.steady .asserted .asserted } : Filters).wireFollowed.limitsFollowed
      } := by
  rw [sampleInput_rise (i := .wireLow) (by rcases hj with hj | hj <;> simp [hj]) h (inJob_of_job hj)]
  exact congrArg (finish s)
    (haltStation_filter .wireLow _ (by decide : HaltCode.wireExhausted ≠ .duplicateStation) hw)

theorem cutterFault_halts (hj : s.seq.station = .run ∨ s.seq.station = .held) (hw : s.walking = false) :
    cutterFault s = s.afterHalt .wireCutFailed := by
  have hs : (strokeEnded s).seq = s.seq := by simp
  rw [cutterFault, hs, if_pos hj, haltStation_eq (by decide) (by simpa using hw)]
  exact afterHalt_with (s := s) _ _ rfl

/-- What a settled halt leaves (R58). -/
theorem afterHalt_rests {t : State} {code : HaltCode} (h : State.settles s (s.afterHalt code) t)
    (hw : s.walking = false) : t.haltedAtRest ∧ t.seq.halt = some code ∧ t.phase = .halted := by
  obtain ⟨hseq, hthr, hexe, -, hwalk, -, hjet⟩ := settles_rest h
  have hrel : s.coord.released.jet = .off := by
    unfold Coordination.released; split
    · assumption
    · rfl
  refine ⟨⟨?_, ?_, ?_, hwalk.trans hw, ?_, ?_, ?_, ?_, hjet.trans hrel⟩, ?_, ?_⟩
  · rw [hseq]; rfl
  · rw [hseq]; rfl
  · rw [hseq]; rfl
  · rw [hthr]; rfl
  · rw [hthr]; exact .inl rfl
  · rw [hthr]; rfl
  · rw [hexe]; rfl
  · rw [hseq]; rfl
  · rw [State.phase, hseq]; rfl

end Sys2Proof.Machine

open Sys2Proof Sys2Proof.Machine

/-- Settles O46: each of the three inputs ends in the one halt of R58, and what that halt writes is at rest. -/
theorem haltsStopTheStation : Obligations.HaltsStopTheStation := by
  refine ⟨fun s hj hr hw => ⟨fun h => ?_, fun h => ?_, fun hp ht => ?_⟩, fun s t code h hw => ?_⟩
  · exact ⟨_, congrArg Host.Outcome.next (limitInput_halts hj hw h),
      finish_settles _ s (afterHalt_calm (code := .travelLimit) hr)⟩
  · exact ⟨_, congrArg Host.Outcome.next (wireLowInput_halts hj hw h),
      finish_settles _ s (afterHalt_calm (code := .wireExhausted) hr)⟩
  · refine ⟨finish s (s.afterHalt .wireCutFailed), ?_, finish_settles _ s (afterHalt_calm hr)⟩
    show execCutTipTimeout s = _
    rw [execCutTipTimeout, cutterFault_halts hj hw, if_pos (by simp [State.phaseTimed, hp, ht])]
  · obtain ⟨hrest, hhalt, hphase⟩ := afterHalt_rests h hw
    obtain ⟨hseq, hthr, -, hlocks, -⟩ := settles_rest h
    obtain ⟨-, hset, -⟩ := h
    obtain ⟨hon, hlevel⟩ := settled_idle hset (by rw [hseq]; rfl)
    exact ⟨hrest, hhalt, hon, hlevel, hlocks, by rw [hthr]; rfl, by rw [hthr]; rfl, hphase⟩
end

section
/-! Rounding, the points of a LINE and the square root (O40). -/

namespace Sys2Proof.Machine

/-! ### `roundDiv` (00_scope.md, Rounding) -/

/-- The quotient that `roundDiv` gives its sign: the number of halves of `den`, rounded up to the next even one. -/
def roundNat (num den : Nat) : Nat := (2 * num + den) / (2 * den)

theorem roundDiv_of_nonneg {num : Int} (h : 0 ≤ num) (den : Nat) : roundDiv num den = roundNat num.natAbs den :=
  if_neg (Int.not_lt.2 h)

theorem roundDiv_of_neg {num : Int} (h : num < 0) (den : Nat) : roundDiv num den = -(roundNat num.natAbs den : Int) :=
  if_pos h

/-- The rounded quotient lies within half a divisor, and a tie is rounded up. -/
theorem roundNat_bounds (num : Nat) {den : Nat} (hd : 0 < den) :
    2 * (roundNat num den * den) ≤ 2 * num + den ∧ 2 * num < 2 * (roundNat num den * den) + den := by
  have hle := Nat.div_mul_le_self (2 * num + den) (2 * den)
  have hlt := Nat.lt_div_mul_add (a := 2 * num + den) (b := 2 * den) (by omega)
  rw [Nat.mul_left_comm] at hle hlt
  unfold roundNat
  omega

theorem roundDiv_nearest (num : Int) {den : Nat} (hd : 0 < den) :
    2 * (roundDiv num den * den - num).natAbs ≤ den ∧
      (2 * (roundDiv num den * den - num).natAbs = den → num.natAbs ≤ (roundDiv num den * den).natAbs) := by
  obtain ⟨hle, hlt⟩ := roundNat_bounds num.natAbs hd
  by_cases hn : num < 0
  · rw [roundDiv_of_neg hn, Int.neg_mul, ← Int.natCast_mul]
    omega
  · rw [roundDiv_of_nonneg (Int.not_lt.1 hn), ← Int.natCast_mul]
    omega

/-- A whole quotient is its own rounding. -/
theorem roundDiv_mul (v : Int) {den : Nat} (hd : 0 < den) : roundDiv (v * den) den = v := by
  obtain ⟨h, -⟩ := roundDiv_nearest (v * den) hd
  rw [← Int.sub_mul, Int.natAbs_mul, Int.natAbs_natCast] at h
  have hz : (roundDiv (v * den) den - v).natAbs = 0 := by
    refine Nat.eq_zero_of_not_pos fun hpos => ?_
    have := Nat.mul_le_mul_right den hpos
    omega
  omega

theorem roundNat_mono {m n : Nat} (h : m ≤ n) (den : Nat) : roundNat m den ≤ roundNat n den :=
  Nat.div_le_div_right (by omega)

theorem roundDiv_mono {m n : Int} (h : m ≤ n) (den : Nat) : roundDiv m den ≤ roundDiv n den := by
  by_cases hm : m < 0
  · rw [roundDiv_of_neg hm]
    by_cases hn : n < 0
    · rw [roundDiv_of_neg hn]
      have := roundNat_mono (m := n.natAbs) (n := m.natAbs) (by omega) den
      omega
    · rw [roundDiv_of_nonneg (Int.not_lt.1 hn)]; omega
  · rw [roundDiv_of_nonneg (Int.not_lt.1 hm), roundDiv_of_nonneg (by omega)]
    have := roundNat_mono (m := m.natAbs) (n := n.natAbs) (by omega) den
    omega

/-! ### One axis of a LINE (R106) -/

/-- One coordinate of the point at progress `k` of a line of length `len`. -/
def lineAxis (a b : Int) (len k : Nat) : Int := roundDiv (a * len + (b - a) * k) len

theorem linePoint_eq (a b : Point) {len : Nat} (h : 0 < len) (k : Nat) :
    linePoint a b len k = ⟨lineAxis a.x b.x len k, lineAxis a.y b.y len k⟩ :=
  if_neg (Nat.ne_of_gt h)

variable {len : Nat} (a b : Int)

theorem lineAxis_start (h : 0 < len) : lineAxis a b len 0 = a := by
  rw [lineAxis, Int.natCast_zero, Int.mul_zero, Int.add_zero, roundDiv_mul a h]

theorem lineAxis_stop (h : 0 < len) : lineAxis a b len len = b := by
  rw [lineAxis, ← Int.add_mul, show a + (b - a) = b by omega, roundDiv_mul b h]

theorem lineAxis_nearest (h : 0 < len) (k : Nat) :
    2 * (len * (lineAxis a b len k - a) - (b - a) * k).natAbs ≤ len := by
  obtain ⟨hn, -⟩ := roundDiv_nearest (a * len + (b - a) * k) h
  rwa [show (len : Int) * (lineAxis a b len k - a) - (b - a) * k =
    lineAxis a b len k * len - (a * len + (b - a) * k) by grind]

variable {a b}

theorem lineAxis_mono {j k : Nat} (hjk : j ≤ k) (h : a ≤ b) : lineAxis a b len j ≤ lineAxis a b len k :=
  roundDiv_mono (Int.add_le_add_left (Int.mul_le_mul_of_nonneg_left (by omega) (by omega)) _) _

theorem lineAxis_anti {j k : Nat} (hjk : j ≤ k) (h : b ≤ a) : lineAxis a b len k ≤ lineAxis a b len j :=
  roundDiv_mono (Int.add_le_add_left (Int.mul_le_mul_of_nonpos_left (by omega) (by omega)) _) _

/-! ### The square root -/

/-- The digits below `2 ^ b` complete a root that lies within `2 ^ b` of what has been found. -/
theorem sqrtDigits_spec (n : Nat) :
    ∀ b r : Nat, r * r ≤ n → n < (r + 2 ^ b) * (r + 2 ^ b) →
      sqrtDigits n b r * sqrtDigits n b r ≤ n ∧ n < (sqrtDigits n b r + 1) * (sqrtDigits n b r + 1)
  | 0, _, hle, hlt => ⟨hle, hlt⟩
  | b + 1, r, hle, hlt => by
    have hpow : r + 2 ^ (b + 1) = r + 2 ^ b + 2 ^ b := by rw [Nat.pow_succ]; omega
    unfold sqrtDigits
    dsimp only
    split
    · exact sqrtDigits_spec n b _ ‹_› (hpow ▸ hlt)
    · exact sqrtDigits_spec n b r hle (Nat.not_le.1 ‹_›)

theorem isqrt_spec (n : Nat) : isqrt n * isqrt n ≤ n ∧ n < (isqrt n + 1) * (isqrt n + 1) := by
  refine sqrtDigits_spec n _ 0 (Nat.zero_le _) ?_
  rw [Nat.zero_add, ← Nat.pow_add]
  exact Nat.lt_of_lt_of_le Nat.lt_log2_self (Nat.pow_le_pow_right (by omega) (by omega))

theorem int_mul_self_nonneg (a : Int) : 0 ≤ a * a := by
  rw [← Int.natAbs_mul_self]
  exact Int.natCast_nonneg _

/-- The rounded root lies within a half of the root: `(r - 1/2)² < n ≤ (r + 1/2)²` in integers. -/
theorem roundSqrt_spec (n : Nat) :
    n ≤ roundSqrt n * roundSqrt n + roundSqrt n ∧
      (roundSqrt n = 0 ∨ roundSqrt n * roundSqrt n < n + roundSqrt n) := by
  obtain ⟨hle, hlt⟩ := isqrt_spec n
  unfold roundSqrt
  dsimp only
  generalize isqrt n = r at *
  rw [Nat.add_mul, Nat.mul_add] at hlt
  split
  · rw [Nat.add_mul, Nat.mul_add]; omega
  · omega

end Sys2Proof.Machine

open Sys2Proof Sys2Proof.Machine

/-- Settles O40, axis by axis, and the length by the rounded root. -/
theorem linesAreRoundedToTheNearest : Obligations.LinesAreRoundedToTheNearest := by
  refine ⟨fun num den hd => roundDiv_nearest num hd, fun a b len k hlen hk => ?_, fun a b => ?_⟩
  · simp only [linePoint_eq a b hlen, lineAxis_start _ _ hlen, lineAxis_stop _ _ hlen]
    exact ⟨trivial, trivial, lineAxis_nearest _ _ hlen k, lineAxis_nearest _ _ hlen k, fun j hj =>
      ⟨lineAxis_mono hj, lineAxis_anti hj, lineAxis_mono hj, lineAxis_anti hj⟩⟩
  · intro n r
    have hn : (distSq a b : Int) = n :=
      Int.toNat_of_nonneg (Int.add_nonneg (int_mul_self_nonneg _) (int_mul_self_nonneg _))
    obtain ⟨hle, hlt⟩ := roundSqrt_spec (distSq a b)
    have hr : r = (roundSqrt (distSq a b) : Int) := rfl
    rw [hr, ← hn, ← Int.natCast_mul]
    omega
end

section
/-! Emissions (R67 to R75) and the geometry of an ARC (R8, R107): O42. -/

namespace Sys2Proof.Machine

/-! ### The arc tangent and the angles stay in their ranges (log 15) -/

/-- The terms of the series fall, so its sum lies between 0 and its first term. -/
theorem atanTerms_bounds {t2 : Nat} (h : t2 ≤ fixOne) :
    ∀ fuel power k : Nat,
      0 < k → 0 ≤ atanTerms t2 fuel power k ∧ atanTerms t2 fuel power k ≤ (power / k : Nat)
  | 0, _, _, _ => ⟨Int.le_refl _, Int.natCast_nonneg _⟩
  | fuel + 1, power, k, hk => by
    obtain ⟨hlo, hhi⟩ := atanTerms_bounds h fuel (power * t2 / fixOne) (k + 2) (by omega)
    have hone : 0 < fixOne := Nat.pow_pos (by decide)
    have hpower : power * t2 / fixOne ≤ power :=
      Nat.div_le_of_le_mul (by rw [Nat.mul_comm fixOne]; exact Nat.mul_le_mul_left _ h)
    have hterm : power * t2 / fixOne / (k + 2) ≤ power / k := Nat.div_le_div hpower (by omega) (by omega)
    rw [atanTerms]
    omega

/-- The series of 0 is 0. -/
theorem atanTerms_zero (t2 : Nat) : ∀ fuel k : Nat, atanTerms t2 fuel 0 k = 0
  | 0, _ => rfl
  | fuel + 1, k => by
    rw [atanTerms, Nat.zero_mul, Nat.zero_div, Nat.zero_div, atanTerms_zero t2 fuel]; rfl

theorem half_le_quarter_pi : fixOne / 2 ≤ fixPi / 4 := by
  rw [fixOne, fixBits, Nat.pow_add 2 256 256]
  decide

theorem atanSmall_bounds {num den : Nat} (h : 2 * num ≤ den) :
    0 ≤ atanSmall num den ∧ atanSmall num den ≤ (fixPi / 4 : Nat) := by
  have ht : num * fixOne / den ≤ fixOne / 2 := by
    rcases Nat.eq_zero_or_pos den with rfl | hd
    · rw [Nat.div_zero]; exact Nat.zero_le _
    · rw [Nat.le_div_iff_mul_le (by decide)]
      have := Nat.div_mul_le_self (num * fixOne) den
      refine Nat.le_of_mul_le_mul_right ?_ hd
      calc num * fixOne / den * 2 * den = 2 * (num * fixOne / den * den) := by grind
        _ ≤ 2 * (num * fixOne) := Nat.mul_le_mul_left _ this
        _ = fixOne * (2 * num) := by grind
        _ ≤ fixOne * den := Nat.mul_le_mul_left _ h
  have ht2 : num * fixOne / den * (num * fixOne / den) / fixOne ≤ fixOne :=
    Nat.div_le_of_le_mul (Nat.mul_le_mul (by omega) (by omega))
  obtain ⟨hlo, hhi⟩ := atanTerms_bounds ht2 270 (num * fixOne / den) 1 (by decide)
  have hq := half_le_quarter_pi
  rw [Nat.div_one] at hhi
  exact ⟨hlo, by unfold atanSmall; dsimp only; omega⟩

theorem atanUnit_bounds {num den : Nat} (h : num ≤ den) :
    0 ≤ atanUnit num den ∧ atanUnit num den ≤ (fixPi / 4 : Nat) := by
  unfold atanUnit
  split
  · exact atanSmall_bounds ‹_›
  · obtain ⟨hlo, hhi⟩ := atanSmall_bounds (num := den - num) (den := den + num) (by omega)
    omega

theorem quadrantAngle_bounds (x y : Nat) : 0 ≤ quadrantAngle x y ∧ quadrantAngle x y ≤ (fixPi / 2 : Nat) := by
  unfold quadrantAngle
  split
  · obtain ⟨hlo, hhi⟩ := atanUnit_bounds (num := y) (den := x) ‹_›
    omega
  · obtain ⟨hlo, hhi⟩ := atanUnit_bounds (num := x) (den := y) (by omega)
    omega

/-- An angle is at most a full turn. -/
theorem fullAngle_le (x y : Int) : fullAngle x y ≤ (fixTurn : Int) := by
  obtain ⟨hlo, hhi⟩ := quadrantAngle_bounds x.natAbs y.natAbs
  have hturn : fixTurn = 2 * fixPi := rfl
  unfold fullAngle
  split
  · split
    · omega
    · omega
  · split
    · omega
    · omega

/-- The angle of a point on the positive X axis is 0. -/
theorem fullAngle_axis {x : Int} (h : 0 < x) : fullAngle x 0 = 0 := by
  have hq : quadrantAngle x.natAbs 0 = 0 := by
    rw [quadrantAngle, if_pos (Nat.zero_le _), atanUnit, if_pos (Nat.zero_le _), atanSmall]
    rw [Nat.zero_mul, Nat.zero_div, atanTerms_zero]
  rw [fullAngle, if_pos (Int.le_refl _), if_pos (Int.le_of_lt h)]
  exact hq

/-! ### Sweeps, lengths and points of an ARC -/

section
variable {start stop centre : Point}

theorem arcSweep_full (cw : Bool) (start centre : Point) : arcSweep cw start start centre = fixTurn :=
  if_pos rfl

/-- The counter-clockwise angle from the start to the end, seen from the centre. -/
def ccwAngle (start stop centre : Point) : Nat :=
  let a := start.sub centre
  let b := stop.sub centre
  (fullAngle (a.x * b.x + a.y * b.y) (a.x * b.y - a.y * b.x)).toNat

theorem ccwAngle_le (start stop centre : Point) : ccwAngle start stop centre ≤ fixTurn :=
  Int.toNat_le.2 (fullAngle_le _ _)

/-- The sweep of an arc to another point that is not its centre (R8). -/
theorem arcSweep_eq (cw : Bool) (h1 : start ≠ stop) (h2 : stop ≠ centre) :
    arcSweep cw start stop centre =
      if cw then (if ccwAngle start stop centre = 0 then 0 else fixTurn - ccwAngle start stop centre)
      else ccwAngle start stop centre := by
  unfold arcSweep
  dsimp only
  rw [if_neg h1, if_neg h2]
  rfl

theorem arcSweep_turn (h1 : start ≠ stop) (h2 : stop ≠ centre) (h : 0 < arcSweep false start stop centre) :
    arcSweep true start stop centre + arcSweep false start stop centre = fixTurn := by
  have hle := ccwAngle_le start stop centre
  rw [arcSweep_eq false h1 h2, if_neg Bool.false_ne_true] at *
  rw [arcSweep_eq true h1 h2, if_pos rfl, if_neg (by omega)]
  omega

/-- An arc of no sweep has no length. -/
theorem arcLength_of_sweep_zero {cw : Bool} (h : arcSweep cw start stop centre = 0) :
    arcLength cw start stop centre = 0 := by
  have hone : 0 < fixOne := Nat.pow_pos (by decide)
  rw [arcLength, h, Nat.mul_zero, Nat.zero_div, nearestFix, Nat.zero_add]
  exact Nat.div_eq_of_lt (Nat.div_lt_self hone (by decide))

/-- An end on the ray of the start gives no length. -/
theorem arcLength_same_ray (cw : Bool) (h1 : start ≠ stop) (h2 : stop ≠ centre)
    (hcross : (start.sub centre).x * (stop.sub centre).y = (start.sub centre).y * (stop.sub centre).x)
    (hdot : 0 < (start.sub centre).x * (stop.sub centre).x + (start.sub centre).y * (stop.sub centre).y) :
    arcLength cw start stop centre = 0 := by
  have hz : ccwAngle start stop centre = 0 := by
    unfold ccwAngle
    dsimp only
    rw [hcross, Int.sub_self, fullAngle_axis hdot]; rfl
  refine arcLength_of_sweep_zero ?_
  rw [arcSweep_eq cw h1 h2, hz]
  split <;> rfl

/-- The radius tests of R8 on whole radii: a radius short of 1000 nm, or two radii more than 1000 nm apart. -/
theorem arcRadiiFail_iff {r e : Nat} (hr : distSq start centre = r * r) (he : distSq stop centre = e * e) :
    arcRadiiFail start stop centre = true ↔ r < 1000 ∨ e + 1000 < r ∨ r + 1000 < e := by
  have hshort : r * r < 1000000 ↔ r < 1000 := Nat.mul_self_lt_mul_self_iff (n := 1000)
  have hsq : 4 * (r * r) * (e * e) = (2 * (r * e)) * (2 * (r * e)) := by grind
  have hapart : (1000000 < r * r + e * e ∧
      2 * (r * e) < r * r + e * e - 1000000) ↔ e + 1000 < r ∨ r + 1000 < e := by
    have hgap : ∀ a b : Nat, a ≤ b → (1000000 + 2 * (a * b) < a * a + b * b ↔ a + 1000 < b) := by
      intro a b hab
      obtain ⟨d, rfl⟩ := Nat.exists_eq_add_of_le hab
      have hd : 1000 * 1000 < d * d ↔ 1000 < d := Nat.mul_self_lt_mul_self_iff
      have : a * a + (a + d) * (a + d) = d * d + 2 * (a * (a + d)) := by grind
      omega
    rcases Nat.le_total r e with hre | hre
    · have := hgap r e hre
      omega
    · have := hgap e r hre
      rw [Nat.mul_comm e r] at this
      omega
  unfold arcRadiiFail
  dsimp only
  rw [hr, he, hsq]
  simp only [Bool.or_eq_true, Bool.and_eq_true, decide_eq_true_eq, Nat.mul_self_lt_mul_self_iff, hshort, hapart]

theorem arcRadiiFail_short (h : distSq start centre < 1000000) : arcRadiiFail start stop centre = true := by
  simp [arcRadiiFail, h]

theorem arcPoint_ends (cw : Bool) (start stop centre : Point) {len : Nat} (h : 0 < len) :
    arcPoint cw start stop centre len 0 = start ∧ arcPoint cw start stop centre len len = stop := by
  refine ⟨if_pos rfl, ?_⟩
  rw [arcPoint, if_neg (Nat.ne_of_gt h), if_pos rfl]

end

/-! ### One emission: from the record read to the entry placed (R67, R72) -/

/-- The Fetcher is RUNNING with room in the queue, and its fields are written. -/
structure Emitting (s : State) (p : PartNo) (pass : Pass) (i : PathIndex) (start : Point) (c : CondNo) : Prop where
  running : s.fetch.state = .running
  room : s.queue.length < 16
  part : s.fetch.part = some p
  pass : s.fetch.pass = some pass
  position : s.fetch.position = some i
  endPoint : s.fetch.endPoint = some start
  cond : s.fetch.cond = some c

/-- Where the reading of an emission begins. -/
def State.readPoint (s : State) (i : PathIndex) (c : CondNo) : ReadPoint :=
  { position := i, stack := s.fetch.stack, offset := s.fetch.offset, cond := c }

/-- Reading ends at the first record where it does not go on. -/
theorem readOn_stops {s : State} {e : Emission} {p : ReadPoint} {t : Taken}
    (ht : takeRecord e p (s.record p.position) = t) (hstop : ∀ q, t ≠ .on q) (n : Nat) :
    readOn s e (n + 1) p = some ⟨p, t⟩ := by
  rw [readOn, ht]
  cases t with
  | on q => exact absurd rfl (hstop q)
  | segment | stop | fault => rfl

theorem two_pow_succ (k : Nat) : ∃ n, 2 ^ k = n + 1 :=
  Nat.exists_eq_succ_of_ne_zero (Nat.ne_of_gt (Nat.two_pow_pos k))

theorem readBound_succ : ∃ n, readBound = n + 1 := two_pow_succ 400

section
variable {s : State} {p : PartNo} {pass : Pass} {i : PathIndex} {start : Point} {c : CondNo}

/-- An emission whose first record gives an entry places it. -/
theorem Emitting.places (h : Emitting s p pass i start c) {t : Taken}
    (ht : takeRecord (s.emission p pass start) (s.readPoint i c) (s.record i) = t) (hstop : ∀ q, t ≠ .on q) :
    exec .emission s = .next (placeTaken p (s.emission p pass start) ⟨s.readPoint i c, t⟩ s) := by
  have hemit : s.emit = some (some (placeTaken p (s.emission p pass start) ⟨s.readPoint i c, t⟩ s)) := by
    obtain ⟨n, hn⟩ := readBound_succ
    have hread : readOn s (s.emission p pass start) readBound (s.readPoint i c) = some ⟨s.readPoint i c, t⟩ := by
      rw [hn]; exact readOn_stops ht hstop n
    rw [State.emit, if_pos ⟨h.running, h.room⟩, h.part, h.pass, h.position, h.endPoint, h.cond]
    exact congrArg some (congrArg (Option.map _) hread)
  change execEmission s = _
  rw [execEmission, hemit]

/-- A record that fails places a FAULT entry, and the Fetcher is FAULTED where it stands. -/
theorem Emitting.faults (h : Emitting s p pass i start c) {cause : FetchFault}
    (ht : takeRecord (s.emission p pass start) (s.readPoint i c) (s.record i) = .fault cause) :
    exec .emission s = .next { s with
      queue := s.queue ++ [⟨.fault cause, start, start, none, 0, c, p, pass, s.fetch.ordinal, 0⟩]
      fetch := { s.fetch with state := .faulted } } := by
  have hstands : { s.fetch with state := .faulted, position := some i, cond := some c } =
      { s.fetch with state := .faulted } := by rw [← h.position, ← h.cond]
  rw [h.places ht (fun _ => Taken.noConfusion), ← hstands]
  rfl

/-- A segment goes to the tail of the queue, and reading to the next record; the sixteenth entry makes FULL. -/
theorem Emitting.places_segment (h : Emitting s p pass i start c) {kind : EntryKind} {stop : Point}
    {centre : Option Point} {len : Nat}
    (ht : takeRecord (s.emission p pass start) (s.readPoint i c) (s.record i) =
      .segment kind stop centre len (s.readPoint i c).next) :
    exec .emission s = .next { s with
      queue := s.queue ++ [⟨kind, start, stop, centre, len, c, p, pass, s.fetch.ordinal,
                            dryLength s.fetch.target pass s.fetch.ordinal len⟩]
      fetch := { s.fetch with
                 state := if s.queue.length = 15 then .full else .running
                 position := some (i + 1), endPoint := some stop, ordinal := s.fetch.ordinal + 1
                 target := targetAfter s.fetch.target pass s.fetch.ordinal } } := by
  have hfull : (if s.queue.length = 15 then FetchState.full else .running) =
      if s.queue.length + 1 < Config.queueSize then .running else .full := by
    have hroom := h.room
    have hsize : Config.queueSize = 16 := rfl
    by_cases hlast : s.queue.length = 15
    · rw [if_pos hlast, if_neg (by omega)]
    · rw [if_neg hlast, if_pos (by omega)]
  rw [h.places ht (fun _ => Taken.noConfusion), hfull]
  dsimp only
  rw [h.cond]
  rfl

/-- END outside every call places STOP_END and ends the reading. -/
theorem Emitting.places_stopEnd (h : Emitting s p pass i start c) (hr : s.record i = .fin)
    (hstack : s.fetch.stack = []) :
    exec .emission s = .next { s with
      queue := s.queue ++ [⟨.stopEnd, start, start, none, 0, c, p, pass, s.fetch.ordinal, 0⟩]
      fetch := { s.fetch with state := .done, position := some (i + 1), target := none } } := by
  have ht : takeRecord (s.emission p pass start) (s.readPoint i c) (s.record i) =
      .stop false (s.readPoint i c).next := by
    rw [hr]; exact takeEnd_stops hstack
  rw [h.places ht (fun _ => Taken.noConfusion)]
  dsimp only
  rw [h.cond]
  rfl

end

/-! ### The checks of R71 in their order -/

section
variable {e : Emission} {p : ReadPoint} {x y cx cy : Int} {cw : Bool}

theorem takeLine_coordRange (h : (composed e p x y).inRange = false) : takeLine e p x y = .fault .coordRange := by
  simp [takeLine, h]

theorem takeLine_outsideTravel (h : (composed e p x y).inRange = true) (hmoves : composed e p x y ≠ e.start)
    (hwindow : e.setup.inWindow (composed e p x y) = false) : takeLine e p x y = .fault .outsideTravel := by
  simp [takeLine, h, hmoves, hwindow]

theorem takeLine_segment (h : (composed e p x y).inRange = true) (hmoves : composed e p x y ≠ e.start)
    (hwindow : e.setup.inWindow (composed e p x y) = true) (hord : e.ordinal ≤ 65534) :
    takeLine e p x y =
      .segment .line (composed e p x y) none (lineLength e.start (composed e p x y)) p.next := by
  simp [takeLine, h, hmoves, hwindow, Nat.not_lt.2 hord]

theorem takeArc_coordRange (h : (composed e p x y).inRange = false ∨ (composed e p cx cy).inRange = false) :
    takeArc e p cw x y cx cy = .fault .coordRange := by
  unfold takeArc
  exact if_pos (by rcases h with h | h <;> simp [h])

theorem takeArc_geometry (hstop : (composed e p x y).inRange = true) (hcentre : (composed e p cx cy).inRange = true)
    (h : arcFails cw e.start (composed e p x y) (composed e p cx cy) = true) :
    takeArc e p cw x y cx cy = .fault .arcGeometry := by
  simp [takeArc, hstop, hcentre, h]

theorem takeArc_outsideTravel (hstop : (composed e p x y).inRange = true)
    (hcentre : (composed e p cx cy).inRange = true)
    (h : arcFails cw e.start (composed e p x y) (composed e p cx cy) = false)
    (hwindow : e.setup.inWindow (composed e p x y) = false) :
    takeArc e p cw x y cx cy = .fault .outsideTravel := by
  simp [takeArc, hstop, hcentre, h, hwindow]

theorem takeArc_segment (hstop : (composed e p x y).inRange = true)
    (hcentre : (composed e p cx cy).inRange = true)
    (h : arcFails cw e.start (composed e p x y) (composed e p cx cy) = false)
    (hwindow : e.setup.inWindow (composed e p x y) = true) (hord : e.ordinal ≤ 65534) :
    takeArc e p cw x y cx cy =
      .segment (if cw then .arcCw else .arcCcw) (composed e p x y) (some (composed e p cx cy))
        (arcLength cw e.start (composed e p x y) (composed e p cx cy)) p.next := by
  simp [takeArc, hstop, hcentre, h, hwindow, Nat.not_lt.2 hord]

end

/-- An arc fails by its radii or by having no length (R8). -/
theorem arcFails_iff {cw : Bool} {start stop centre : Point} : arcFails cw start stop centre = true ↔
    arcRadiiFail start stop centre = true ∨ arcLength cw start stop centre = 0 := by
  simp [arcFails]

/-- Without a RUNNING Fetcher or without room nothing is placed. -/
theorem execEmission_idle {s : State} (h : s.fetch.state ≠ .running ∨ 16 ≤ s.queue.length) :
    exec .emission s = .next s := by
  have hnone : s.emit = none :=
    if_neg fun ⟨hrunning, hroom⟩ => h.elim (fun hn => hn hrunning) (fun hfull => Nat.not_lt.2 hfull hroom)
  change execEmission s = _
  rw [execEmission, hnone]

end Sys2Proof.Machine

open Sys2Proof Sys2Proof.Machine

/-- Settles O42: an emission places what the first record it reads gives, by the tests of R71 in their order; and
the angles of an arc lie between 0 and a full turn by the bounds of the arc tangent's series. -/
theorem emissionPlacesSegmentsAndStops : Obligations.EmissionPlacesSegmentsAndStops := by
  refine ⟨?_, ?_, fun s => execEmission_idle⟩
  · intro s p pass i start c hrunning hroom hpart hpass hposition hendPoint hcond
    have h : Emitting s p pass i start c := ⟨hrunning, hroom, hpart, hpass, hposition, hendPoint, hcond⟩
    refine ⟨?_, ?_, h.places_stopEnd, ?_⟩
    · intro x y hr
      exact ⟨fun hrange => h.faults (by rw [hr]; exact takeLine_coordRange hrange),
        fun hrange hmoves hwindow => h.faults (by rw [hr]; exact takeLine_outsideTravel hrange hmoves hwindow),
        fun hrange hmoves hwindow hord =>
          h.places_segment (by rw [hr]; exact takeLine_segment hrange hmoves hwindow hord)⟩
    · intro cw x y cx cy hr
      refine ⟨fun hrange => h.faults (by rw [hr]; exact takeArc_coordRange hrange), fun hstop hcentre => ⟨?_, ?_⟩⟩
      · exact fun hfails => h.faults (by rw [hr]; exact takeArc_geometry hstop hcentre (arcFails_iff.2 hfails))
      · intro hradii hlength
        have hok : arcFails cw start _ _ = false :=
          Bool.eq_false_iff.2 fun hfails => (arcFails_iff.1 hfails).elim
            (fun hr => Bool.false_ne_true (hradii.symm.trans hr)) (Nat.ne_of_gt hlength)
        exact ⟨fun hwindow => h.faults (by rw [hr]; exact takeArc_outsideTravel hstop hcentre hok hwindow),
          fun hwindow hord =>
            h.places_segment (by rw [hr]; exact takeArc_segment hstop hcentre hok hwindow hord)⟩
    · rintro (hr | hr)
      · exact h.faults (by rw [hr]; rfl)
      · exact h.faults (by rw [hr]; rfl)
  · intro start stop centre
    refine ⟨fun r e => arcRadiiFail_iff, arcRadiiFail_short, fun cw => arcSweep_full cw start centre, ?_,
      fun cw len => arcPoint_ends cw start stop centre⟩
    exact fun h1 h2 => ⟨fun hcross hdot cw => arcLength_same_ray cw h1 h2 hcross hdot, arcSweep_turn h1 h2⟩
end

section
/-! The validation walk of START JOB (R11 to R14): its checks, its order and the lock set it gives: O24. -/

namespace Sys2Proof.Machine

/-! ### The lock set as a set -/

theorem mem_lockInsert {k i : Nat} : ∀ {l : List Nat}, k ∈ lockInsert i l ↔ k = i ∨ k ∈ l
  | [] => by simp [lockInsert]
  | j :: rest => by
    rw [lockInsert]
    split
    · exact List.mem_cons
    · split
      · rename_i h; subst h; simp
      · rw [List.mem_cons, mem_lockInsert, List.mem_cons]; exact or_left_comm

theorem lockInsert_sorted (i : Nat) : ∀ {l : List Nat}, l.Pairwise (· < ·) → (lockInsert i l).Pairwise (· < ·)
  | [], _ => List.pairwise_singleton _ _
  | j :: rest, h => by
    obtain ⟨hj, hrest⟩ := List.pairwise_cons.1 h
    rw [lockInsert]
    split
    · rename_i hlt
      refine List.pairwise_cons.2 ⟨fun k hk => ?_, h⟩
      rcases List.mem_cons.1 hk with rfl | hk
      · exact hlt
      · exact Nat.lt_trans hlt (hj k hk)
    · split
      · exact h
      · refine List.pairwise_cons.2 ⟨fun k hk => ?_, lockInsert_sorted i hrest⟩
        rcases mem_lockInsert.1 hk with rfl | hk
        · omega
        · exact hj k hk

/-! ### One step of a walk -/

section
variable {s : State} {retain : Bool} {w v : WalkPoint}

/-- The check of the record that a walk is about to read, which is locked first (R11). -/
def State.readRecord (s : State) (retain : Bool) (w : WalkPoint) : Checked :=
  checkRecord s retain { w with locks := lockInsert w.position.val w.locks } (s.record w.position)

theorem walkContour_succ (fail : Cause → PathIndex → WalkFailure) (n : Nat) :
    walkContour s retain fail (n + 1) w =
      match s.readRecord retain w with
      | .fails c => .error (fail c w.position)
      | .ends locks => .ok locks
      | .on v => walkContour s retain fail n v := by
  rw [walkContour]; rfl

theorem walkContour_fails {fail : Cause → PathIndex → WalkFailure} {n : Nat} {c : Cause}
    (h : s.readRecord retain w = .fails c) : walkContour s retain fail (n + 1) w = .error (fail c w.position) := by
  rw [walkContour_succ, h]

theorem walkContour_ends {fail : Cause → PathIndex → WalkFailure} {n : Nat} {locks : List Nat}
    (h : s.readRecord retain w = .ends locks) : walkContour s retain fail (n + 1) w = .ok locks := by
  rw [walkContour_succ, h]

theorem walkContour_on {fail : Cause → PathIndex → WalkFailure} {n : Nat} (h : s.readRecord retain w = .on v) :
    walkContour s retain fail (n + 1) w = walkContour s retain fail n v := by
  rw [walkContour_succ, h]

/-- A walk that goes on along a path of `n` records has used `n` of its budget. -/
theorem walkContour_along (fail : Cause → PathIndex → WalkFailure) (m : Nat) :
    ∀ (n : Nat) (path : Nat → WalkPoint), (∀ k, k < n → s.readRecord retain (path k) = .on (path (k + 1))) →
      walkContour s retain fail (n + m) (path 0) = walkContour s retain fail m (path n)
  | 0, _, _ => by rw [Nat.zero_add]
  | n + 1, path, h => by
    rw [Nat.add_right_comm, walkContour_on (h 0 (Nat.succ_pos n))]
    exact walkContour_along fail m n (fun k => path (k + 1)) fun k hk => h (k + 1) (Nat.succ_lt_succ hk)

theorem checkRecord_cond (k : CondNo) : checkRecord s retain w (.cond k.val) =
    if (s.condition k).loaded = true then .on w.next else .fails .conditionUnloaded := by
  have hk : ¬16 ≤ k.val := Nat.not_le.2 k.isLt
  rw [checkRecord, if_neg hk, State.isLoaded, dif_pos k.isLt]
  cases (s.condition k).loaded <;> rfl

theorem checkRecord_call (target : PathIndex) (n : Nat) (dx dy : Int) :
    checkRecord s retain w (.call target.val n dx dy) =
      if 15 ≤ w.returns.length then .fails .nesting
      else .on { w with position := target, returns := (w.position + 1) :: w.returns } := by
  rw [checkRecord, dif_pos target.isLt]; rfl

theorem checkRecord_tab : checkRecord s retain w .tab =
    if w.returns = [] ∧ w.tabbed = false then .on { w.next with tabbed := true } else .fails .tabPlacement := by
  rw [checkRecord]
  by_cases hr : w.returns = [] <;> cases ht : w.tabbed <;> simp [hr]

theorem checkRecord_fin (h : w.returns = []) : checkRecord s retain w .fin =
    if retain = true ∧ w.tabbed = false then .fails .tabMissing else .ends w.locks := by
  rw [checkRecord, h]
  cases w.tabbed <;> simp

theorem checkRecord_return {back : PathIndex} {rest : List PathIndex} (h : w.returns = back :: rest) :
    checkRecord s retain w .fin = .on { w with position := back, returns := rest } := by
  rw [checkRecord, h]

end

/-! ### The walk of a part and of a pass -/

section
variable {s : State} {p : PartNo} {locks : List Nat}

theorem walkJob_present (h : s.setup.present = true) : walkJob s = allParts.foldlM (walkPart s) [] := by
  simp [walkJob, h]

theorem walkPart_disabled (h : (s.part p).enabled = false) : walkPart s locks p = .ok locks := by
  simp [walkPart, h]

theorem walkPart_outside (h : (s.part p).enabled = true) (hw : s.setup.inWindow (s.part p).startHole = false) :
    walkPart s locks p = .error ⟨.startHoleTravel, some p, none, none⟩ := by
  simp [walkPart, h, hw]

theorem walkPart_passes (h : (s.part p).enabled = true) (hw : s.setup.inWindow (s.part p).startHole = true) :
    walkPart s locks p = (s.part p).passes.foldlM (walkPass s p) locks := by
  simp [walkPart, h, hw]

variable {pass : Pass} {first cond : Nat}

theorem walkPass_range (hf : (s.part p).contour.get pass = some first) (h : 4096 ≤ first) :
    walkPass s p locks pass = .error ⟨.targetRange, some p, some pass, none⟩ := by
  rw [walkPass]
  simp only [hf, Option.getD_some, Nat.not_lt.2 h, dite_false]

theorem walkPass_unloaded (hf : (s.part p).contour.get pass = some first)
    (hc : (s.part p).initial.get pass = some cond) (h : first < 4096) (hl : s.isLoaded cond = false) :
    walkPass s p locks pass = .error ⟨.conditionUnloaded, some p, some pass, none⟩ := by
  rw [walkPass]
  simp [hf, hc, h, hl]

theorem walkPass_contour {i : PathIndex} (hf : (s.part p).contour.get pass = some i.val)
    (hc : (s.part p).initial.get pass = some cond) (hl : s.isLoaded cond = true) :
    walkPass s p locks pass = walkContour s (s.part p).retain (fun c j => ⟨c, some p, some pass, some j⟩) 65536
      ⟨i, [], false, locks⟩ := by
  rw [walkPass]
  simp only [hf, hc, Option.getD_some, i.isLt, dite_true, hl, if_true]
  rfl

/-- The passes of a part that has one begin with the first. -/
theorem passes_first (r : PartRecord) (h : 1 ≤ r.passCount) : ∃ rest, r.passes = .first :: rest :=
  ⟨_, List.filter_cons_of_pos (decide_eq_true h)⟩

end

/-! ### A fold that skips, and one that fails -/

section
variable {α β ε : Type} {f : β → α → Except ε β}

theorem foldlM_skips {b : β} : ∀ {l : List α}, (∀ a ∈ l, f b a = .ok b) → l.foldlM f b = .ok b
  | [], _ => rfl
  | a :: l, h => by
    rw [List.foldlM_cons, h a List.mem_cons_self]
    exact foldlM_skips fun x hx => h x (List.mem_cons_of_mem a hx)

theorem foldlM_fails {b : β} {a : α} {e : ε} {l m : List α} (hl : ∀ x ∈ l, f b x = .ok b)
    (ha : f b a = .error e) : (l ++ a :: m).foldlM f b = .error e := by
  rw [List.foldlM_append, foldlM_skips hl]
  change (f b a >>= _) = _
  rw [ha]; rfl

/-- What each step keeps or gives, the fold keeps and gives of every element. -/
theorem foldlM_gives {P : List Nat → Prop} {Q : α → List Nat → Prop} {f : List Nat → α → Except ε (List Nat)}
    (hmono : ∀ a b c, Q a b → b ⊆ c → Q a c) : ∀ {l : List α},
    (∀ a ∈ l, ∀ b c, P b → f b a = .ok c → P c ∧ b ⊆ c ∧ Q a c) →
    ∀ {b c : List Nat}, P b → l.foldlM f b = .ok c → P c ∧ b ⊆ c ∧ ∀ a ∈ l, Q a c
  | [], _, b, c, hb, h => by
    cases h
    exact ⟨hb, List.Subset.refl b, fun a ha => absurd ha List.not_mem_nil⟩
  | a :: l, hstep, b, c, hb, h => by
    rw [List.foldlM_cons] at h
    cases hfa : f b a with
    | error e => rw [hfa] at h; cases h
    | ok d =>
      rw [hfa] at h
      obtain ⟨hd, hbd, hqa⟩ := hstep a List.mem_cons_self b d hb hfa
      obtain ⟨hc, hdc, hql⟩ := foldlM_gives hmono (fun x hx => hstep x (List.mem_cons_of_mem a hx)) hd h
      refine ⟨hc, List.Subset.trans hbd hdc, fun x hx => ?_⟩
      rcases List.mem_cons.1 hx with rfl | hx
      · exact hmono x d c hqa hdc
      · exact hql x hx

end

/-! ### START JOB (R11, R45) and failed walks (R13) -/

/-- START JOB in IDLE begins the walk and does nothing else. -/
theorem execStartJob_takes {s : State} (hf : s.front = some ⟨0x06, []⟩) (hidle : s.seq.station = .idle) :
    exec .startJob s = .next { s with walking := true } := by
  change execStartJob s = _
  rw [execStartJob, taking_of_front hf]
  change Host.Outcome.next (jobGate [.idle] (fun s => s.setWalking true) s) = _
  rw [jobGate_takes (by rw [hidle]; exact List.mem_singleton_self _) (by rw [hidle]; decide)]
  rfl

section
variable {s : State} {r : Request} {rest : List Request}

/-- The end of a failed walk answers INVALID and unlocks nothing. -/
theorem execValidationWalkEnd_fails {f : WalkFailure} (hw : s.walking = true) (hidle : s.seq.station = .idle)
    (hf : walkJob s = .error f) (hb : s.link.buffer = r :: rest) :
    exec .validationWalkEnd s = .next { s with walking := false, link := s.answering r .invalid f.bytes } := by
  change execValidationWalkEnd s = _
  rw [execValidationWalkEnd, if_pos ⟨hw, hidle⟩, hf]
  exact congrArg Host.Outcome.next (answer_eq (s := s.setWalking false) (congrArg List.head? hb) .invalid f.bytes)

/-- The parts in ascending number up to one of them. -/
theorem allParts_split (p : PartNo) : ∃ l m, allParts = l ++ p :: m ∧ ∀ q ∈ l, q < p := by
  obtain ⟨l, m, hlm⟩ := List.append_of_mem (List.mem_finRange p)
  refine ⟨l, m, hlm, fun q hq => ?_⟩
  have hsorted : (l ++ p :: m).Pairwise (· < ·) := hlm ▸ List.pairwise_lt_finRange 32
  obtain ⟨-, -, hlt⟩ := List.pairwise_append.1 hsorted
  exact hlt q hq p List.mem_cons_self

/-- A walk fails as the first enabled part does. -/
theorem walkJob_fails {p : PartNo} {f : WalkFailure} (hs : s.setup.present = true)
    (hlow : ∀ q, q < p → (s.part q).enabled = false) (hp : walkPart s [] p = .error f) : walkJob s = .error f := by
  obtain ⟨l, m, hlm, hlt⟩ := allParts_split p
  rw [walkJob_present hs, hlm]
  exact foldlM_fails (fun q hq => walkPart_disabled (hlow q (hlt q hq))) hp

/-- A part fails as its first pass does. -/
theorem walkPart_fails {p : PartNo} {f : WalkFailure} (hp : (s.part p).enabled = true)
    (hw : s.setup.inWindow (s.part p).startHole = true) (hn : 1 ≤ (s.part p).passCount)
    (h : walkPass s p [] .first = .error f) : walkPart s [] p = .error f := by
  obtain ⟨passes, hpasses⟩ := passes_first (s.part p) hn
  rw [walkPart_passes hp hw, hpasses]
  exact foldlM_fails (l := []) (fun _ h => absurd h List.not_mem_nil) h

/-- A contour whose first record is no record fails there. -/
theorem walkContour_invalid {retain : Bool} {fail : Cause → PathIndex → WalkFailure} {w : WalkPoint} {n : Nat}
    (h : s.record w.position = .empty ∨ s.record w.position = .unassigned) :
    walkContour s retain fail (n + 1) w = .error (fail .invalidRecord w.position) := by
  have hread : s.readRecord retain w = .fails .invalidRecord := by
    rw [State.readRecord]
    rcases h with h | h
    · rw [h]; rfl
    · rw [h]; rfl
  exact walkContour_fails hread

theorem toBytes_one {b : Byte} {n : Nat} (h : b.toNat = n) : toBytes 1 n = [b] := by
  rw [toBytes, toBytes, ← h, BitVec.ofNat_toNat, BitVec.setWidth_eq]

end

/-! ### The lock set of a walk -/

/-- The first record of a pass of an enabled part. -/
def State.isRoot (s : State) (k : Nat) : Prop :=
  ∃ p pass, (s.part p).enabled = true ∧ pass.code ≤ (s.part p).passCount ∧ (s.part p).contour.get pass = some k

/-- A lock set in the course of a walk, with the indices still to be read: reading leads from a locked record to
locked records and to those still open, and whatever is locked or open begins a pass or is led to. -/
structure Walked (s : State) (locks opens : List Nat) : Prop where
  sorted : locks.Pairwise (· < ·)
  small : ∀ k ∈ locks, k < 4096
  closed : ∀ i : PathIndex, i.val ∈ locks → ∀ k ∈ s.readNext i, k ∈ locks ∨ k ∈ opens
  supported : ∀ k, k ∈ locks ∨ k ∈ opens → s.isRoot k ∨ ∃ i : PathIndex, i.val ∈ locks ∧ k ∈ s.readNext i

section
variable {s : State} {locks : List Nat}

theorem Walked.empty (s : State) : Walked s [] [] where
  sorted := List.Pairwise.nil
  small _ h := absurd h List.not_mem_nil
  closed _ h := absurd h List.not_mem_nil
  supported _ h := h.elim (fun h => absurd h List.not_mem_nil) (fun h => absurd h List.not_mem_nil)

/-- A pass opens its first record. -/
theorem Walked.start (h : Walked s locks []) {k : Nat} (hroot : s.isRoot k) : Walked s locks [k] where
  sorted := h.sorted
  small := h.small
  closed i hi j hj := (h.closed i hi j hj).imp_right fun hn => absurd hn List.not_mem_nil
  supported j hj := by
    rcases hj with hj | hj
    · exact h.supported j (.inl hj)
    · rw [List.mem_singleton.1 hj]; exact .inl hroot

/-- Reading an open record locks it, and leaves open the others with those it leads to. -/
theorem Walked.visit {i : PathIndex} {rest opens : List Nat} (h : Walked s locks (i.val :: rest))
    (hnext : ∀ k ∈ s.readNext i, k ∈ opens) (hrest : ∀ k ∈ rest, k ∈ opens)
    (hopens : ∀ k ∈ opens, k ∈ rest ∨ k ∈ s.readNext i) : Walked s (lockInsert i.val locks) opens where
  sorted := lockInsert_sorted _ h.sorted
  small k hk := (mem_lockInsert.1 hk).elim (fun hk => hk ▸ i.isLt) (h.small k)
  closed j hj k hk := by
    rcases mem_lockInsert.1 hj with hj | hj
    · rw [Fin.ext hj] at hk
      exact .inr (hnext k hk)
    · rcases h.closed j hj k hk with hk | hk
      · exact .inl (mem_lockInsert.2 (.inr hk))
      · rcases List.mem_cons.1 hk with hk | hk
        · exact .inl (mem_lockInsert.2 (.inl hk))
        · exact .inr (hrest k hk)
  supported k hk := by
    have hold : k ∈ locks ∨ k ∈ i.val :: rest → s.isRoot k ∨
        ∃ j : PathIndex, j.val ∈ lockInsert i.val locks ∧ k ∈ s.readNext j := fun hk =>
      (h.supported k hk).imp_right fun ⟨j, hj, hkj⟩ => ⟨j, mem_lockInsert.2 (.inr hj), hkj⟩
    rcases hk with hk | hk
    · rcases mem_lockInsert.1 hk with hk | hk
      · exact hold (.inr (List.mem_cons.2 (.inl hk)))
      · exact hold (.inl hk)
    · rcases hopens k hk with hk | hk
      · exact hold (.inr (List.mem_cons_of_mem _ hk))
      · exact .inr ⟨i, mem_lockInsert.2 (.inl rfl), hk⟩

/-- The records a walk is still to read: the next, then the returns of its calls. -/
def WalkPoint.opens (w : WalkPoint) : List Nat := w.position.val :: w.returns.map Fin.val

variable {retain : Bool} {w : WalkPoint}

/-- A record that is followed by the next one. -/
theorem Walked.visit_next (h : Walked s w.locks w.opens) (hr : s.readNext w.position = [(w.position + 1).val]) :
    Walked s (lockInsert w.position.val w.locks) w.next.opens :=
  h.visit (by rw [hr]; exact fun k hk => List.mem_cons.2 (.inl (List.mem_singleton.1 hk)))
    (fun k hk => List.mem_cons_of_mem _ hk)
    (by rw [hr]; exact fun k hk => (List.mem_cons.1 hk).elim (fun hk => .inr (List.mem_singleton.2 hk)) .inl)

/-- What a walk knows after a record where it goes on. -/
def WentOn (s : State) (w : WalkPoint) : Checked → Prop
  | .fails _ => True
  | .ends locks => locks = lockInsert w.position.val w.locks ∧ Walked s locks []
  | .on v => v.locks = lockInsert w.position.val w.locks ∧ Walked s v.locks v.opens

/-- Reading one record keeps the walk's knowledge of its lock set. -/
theorem readRecord_wentOn (h : Walked s w.locks w.opens) : WentOn s w (s.readRecord retain w) := by
  rw [State.readRecord]
  cases hr : s.record w.position with
  | empty | unassigned => trivial
  | line x y => exact ⟨rfl, h.visit_next (by rw [State.readNext, hr])⟩
  | arc cw x y cx cy => exact ⟨rfl, h.visit_next (by rw [State.readNext, hr])⟩
  | cond index =>
    rw [checkRecord]
    split
    · trivial
    · split
      · trivial
      · exact ⟨rfl, h.visit_next (by rw [State.readNext, hr])⟩
  | tab =>
    rw [checkRecord]
    split
    · trivial
    · exact ⟨rfl, h.visit_next (by rw [State.readNext, hr])⟩
  | call target n dx dy =>
    have hcall : s.readNext w.position = [target, (w.position + 1).val] := by rw [State.readNext, hr]
    rw [checkRecord]
    split
    · split
      · trivial
      · refine ⟨rfl, h.visit ?_ ?_ ?_⟩
        · rw [hcall]
          intro k hk
          simp only [List.mem_cons, List.not_mem_nil, or_false, WalkPoint.opens, List.map_cons] at hk ⊢
          exact hk.imp_right .inl
        · exact fun k hk => List.mem_cons_of_mem _ (List.mem_cons_of_mem _ hk)
        · rw [hcall]
          intro k hk
          simp only [List.mem_cons, List.not_mem_nil, or_false, WalkPoint.opens, List.map_cons] at hk ⊢
          exact hk.elim (fun h => .inr (.inl h)) fun h => h.elim (fun h => .inr (.inr h)) .inl
    · trivial
  | fin =>
    have hfin : s.readNext w.position = [] := by rw [State.readNext, hr]
    cases hreturns : w.returns with
    | nil =>
      rw [checkRecord_fin rfl]
      split
      · trivial
      · refine ⟨rfl, h.visit ?_ ?_ ?_⟩
        · rw [hfin]; exact fun _ hk => hk
        · rw [hreturns]; exact fun _ hk => hk
        · exact fun _ hk => absurd hk List.not_mem_nil
    | cons back rest =>
      rw [checkRecord_return rfl]
      refine ⟨rfl, h.visit ?_ ?_ ?_⟩
      · rw [hfin]; exact fun _ hk => absurd hk List.not_mem_nil
      · rw [hreturns]; exact fun _ hk => hk
      · rw [hreturns]; exact fun _ hk => .inl hk

/-- A contour walked to its end locks its first record and leaves nothing open. -/
theorem walkContour_walked {fail : Cause → PathIndex → WalkFailure} {result : List Nat} :
    ∀ {n : Nat} {w : WalkPoint}, Walked s w.locks w.opens → walkContour s retain fail n w = .ok result →
      Walked s result [] ∧ lockInsert w.position.val w.locks ⊆ result
  | 0, _, _, hok => by cases hok
  | n + 1, w, h, hok => by
    have hon := readRecord_wentOn (retain := retain) h
    rw [walkContour_succ] at hok
    cases hread : s.readRecord retain w with
    | fails c => rw [hread] at hok; cases hok
    | ends locks =>
      rw [hread] at hok hon
      obtain ⟨hlocks, hwalked⟩ := hon
      cases hok
      exact ⟨hwalked, hlocks ▸ List.Subset.refl _⟩
    | on v =>
      rw [hread] at hok hon
      obtain ⟨hlocks, hwalked⟩ := hon
      obtain ⟨hresult, hsub⟩ := walkContour_walked hwalked hok
      refine ⟨hresult, fun k hk => hsub (mem_lockInsert.2 (.inr ?_))⟩
      rwa [hlocks]

/-- What a pass gives: its first record is locked, with all that was. -/
theorem walkPass_walked {p : PartNo} {pass : Pass} {result : List Nat} (hp : (s.part p).enabled = true)
    (hpass : pass.code ≤ (s.part p).passCount) (h : Walked s locks []) (hok : walkPass s p locks pass = .ok result) :
    Walked s result [] ∧ locks ⊆ result ∧ ∃ k ∈ result, (s.part p).contour.get pass = some k := by
  cases hf : (s.part p).contour.get pass with
  | none => simp [walkPass, hf] at hok
  | some first =>
    rw [walkPass] at hok
    simp only [hf, Option.getD_some] at hok
    split at hok
    · split at hok
      · obtain ⟨hresult, hsub⟩ := walkContour_walked (h.start ⟨p, pass, hp, hpass, hf⟩) hok
        exact ⟨hresult, fun k hk => hsub (mem_lockInsert.2 (.inr hk)), first, hsub (mem_lockInsert.2 (.inl rfl)), rfl⟩
      · cases hok
    · cases hok

/-- The first record of a pass is locked. -/
def State.locksPass (s : State) (p : PartNo) (pass : Pass) (locks : List Nat) : Prop :=
  ∃ k ∈ locks, (s.part p).contour.get pass = some k

theorem locksPass_mono (p : PartNo) (pass : Pass) (a b : List Nat) (h : s.locksPass p pass a) (hab : a ⊆ b) :
    s.locksPass p pass b := by
  obtain ⟨k, hk, hf⟩ := h
  exact ⟨k, hab hk, hf⟩

/-- Every pass of an enabled part has its first record locked. -/
def State.locksPart (s : State) (p : PartNo) (locks : List Nat) : Prop :=
  (s.part p).enabled = true → ∀ pass ∈ (s.part p).passes, s.locksPass p pass locks

/-- What a part gives: the first record of each of its passes is locked, with all that was. -/
theorem walkPart_walked {p : PartNo} {result : List Nat} (h : Walked s locks [])
    (hok : walkPart s locks p = .ok result) :
    Walked s result [] ∧ locks ⊆ result ∧ s.locksPart p result := by
  cases hp : (s.part p).enabled with
  | false =>
    rw [walkPart_disabled hp] at hok
    cases hok
    exact ⟨h, List.Subset.refl _, fun hon => absurd (hp.symm.trans hon) Bool.false_ne_true⟩
  | true =>
    cases hw : s.setup.inWindow (s.part p).startHole with
    | false => rw [walkPart_outside hp hw] at hok; cases hok
    | true =>
      rw [walkPart_passes hp hw] at hok
      obtain ⟨hresult, hsub, hpasses⟩ := foldlM_gives (locksPass_mono p)
        (fun pass hpass _ _ hb hok => walkPass_walked hp (of_decide_eq_true (List.mem_filter.1 hpass).2) hb hok) h hok
      exact ⟨hresult, hsub, fun _ => hpasses⟩

/-- What a walk that passed gives: nothing is left open, and each part's passes are locked. -/
theorem walkJob_walked (hok : walkJob s = .ok locks) : Walked s locks [] ∧ ∀ p, s.locksPart p locks := by
  cases hs : s.setup.present with
  | false => simp [walkJob, hs] at hok
  | true =>
    rw [walkJob_present hs] at hok
    obtain ⟨hwalked, -, hparts⟩ := foldlM_gives (Q := fun p => s.locksPart p)
      (fun p a b h hab hp pass hpass => locksPass_mono p pass a b (h hp pass hpass) hab)
      (fun p _ _ _ hb hok => walkPart_walked hb hok) (Walked.empty s) hok
    exact ⟨hwalked, fun p => hparts p (List.mem_finRange p)⟩

end

theorem mem_passes {r : PartRecord} {pass : Pass} (hne : pass ≠ .separation) (h : pass.code ≤ r.passCount) :
    pass ∈ r.passes := by
  refine List.mem_filter.2 ⟨?_, decide_eq_true h⟩
  cases pass with
  | first | second | third => decide
  | separation => exact absurd rfl hne

end Sys2Proof.Machine

open Sys2Proof Sys2Proof.Machine

/-- Settles O24: the checks by their definitions, a failed walk by the first enabled part and its first pass, and
the lock set by what each record read keeps of it. -/
theorem startJobWalksAndFailedWalkChangesNothing : Obligations.StartJobWalksAndFailedWalkChangesNothing := by
  refine ⟨?_, ⟨?_, ?_⟩, ?_, ?_, ?_, ?_⟩
  · intro s hf hidle
    exact execStartJob_takes hf hidle
  · exact fun s f hw hidle hf r rest hb => execValidationWalkEnd_fails hw hidle hf hb
  · intro s r rest hw hidle hb
    refine ⟨fun hs => ?_, fun p b hs hp hlow hbyte => ?_⟩
    · exact execValidationWalkEnd_fails hw hidle (f := ⟨.noSetup, none, none, none⟩) (by simp [walkJob, hs]) hb
    · have hend : ∀ cause pass record, walkPart s [] p = .error ⟨cause, some p, pass, record⟩ →
          exec .validationWalkEnd s = .next { s with
            walking := false
            link := s.answering r .invalid ([b] ++ toBytes 1 (passCode pass) ++
              toBytes 2 ((record.map Fin.val).getD 0xFFFF) ++ toBytes 1 cause.code) } := by
        intro cause pass record hpart
        rw [execValidationWalkEnd_fails hw hidle (walkJob_fails hs hlow hpart) hb, WalkFailure.bytes,
          Option.map_some, Option.getD_some, toBytes_one hbyte]
      refine ⟨fun hout => hend _ _ _ (walkPart_outside hp hout), ?_⟩
      intro first cond hin hn hfirst hcond
      refine ⟨fun h => hend _ _ _ (walkPart_fails hp hin hn (walkPass_range hfirst h)),
        fun h hl => hend _ _ _ (walkPart_fails hp hin hn (walkPass_unloaded hfirst hcond h hl)), ?_⟩
      rintro i rfl hl hrec
      have hpass := walkPass_contour (s := s) (locks := []) (pass := .first) hfirst hcond hl
      exact hend _ _ _ (walkPart_fails hp hin hn (hpass.trans (walkContour_invalid hrec)))
  · intro s retain w
    exact ⟨rfl, rfl, fun k hk => if_pos hk, checkRecord_cond, fun target n dx dy h => dif_neg (Nat.not_lt.2 h),
      checkRecord_call, checkRecord_tab, checkRecord_fin, fun back rest => checkRecord_return, fun _ _ => rfl,
      fun _ _ _ _ _ => rfl, fun _ => rfl⟩
  · intro s retain fail n
    refine ⟨fun w => ⟨fun c => walkContour_fails, fun locks => walkContour_ends, fun v => walkContour_on⟩,
      fun path hpath => ⟨fun m => walkContour_along fail m n path hpath, walkContour_along fail 0 n path hpath⟩⟩
  · intro s p locks
    refine ⟨walkJob_present, walkPart_disabled, walkPart_outside, walkPart_passes, ?_⟩
    intro pass first cond hf hc
    refine ⟨walkPass_range hf, walkPass_unloaded hf hc, ?_⟩
    rintro i rfl hl
    exact walkPass_contour hf hc hl
  · intro s locks hok
    obtain ⟨hwalked, hparts⟩ := walkJob_walked hok
    refine ⟨hwalked.sorted, hwalked.small, fun p pass hp hne hpass => hparts p hp pass (mem_passes hne hpass), ?_, ?_⟩
    · exact fun i j hi hj => (hwalked.closed i hi j.val hj).resolve_right List.not_mem_nil
    · exact fun j hj => hwalked.supported j.val (.inl hj)
end

section
/-! The end of a walk that passed: the entry to RUN and the first selection point (R13, R23 to R25, R45): O25. -/

namespace Sys2Proof.Machine

/-! ### With no walk in progress, no event touches the walk or the job link -/

section
variable {s : State}

/-- No walk is in progress, and the job link stands at `l`. -/
def State.offWalk (s : State) (l : JobLink) : Prop := s.walking = false ∧ s.link = l

/-- An operation that leaves both alone. -/
theorem State.offWalk.of_same {t : State} {l : JobLink} (h : s.offWalk l) (hw : t.walking = s.walking)
    (hl : t.link = s.link) : t.offWalk l := by
  obtain ⟨hwalk, hlink⟩ := h
  exact ⟨hw.trans hwalk, hl.trans hlink⟩

variable {l : JobLink}

theorem haltStation_offWalk (c : HaltCode) (h : s.offWalk l) : (haltStation c s).offWalk l := by
  have hstop : (closeWindow (stopThreader (flush s))).offWalk l := h.of_same (by simp) (by simp)
  have hwalk : (endWalkHalted (closeWindow (stopThreader (flush s)))).offWalk l := by
    have hoff : s.walking = false := h.1
    rw [endWalkHalted, if_neg (by simp [hoff])]
    exact hstop
  unfold haltStation
  simp only
  split
  · exact hwalk.of_same (by simp) (by simp)
  · exact hwalk.of_same (by simp) (by simp)

theorem skipThreadLimit_offWalk (p : PartNo) (h : s.offWalk l) : (skipThreadLimit p s).offWalk l := by
  unfold skipThreadLimit
  simp only
  split
  · exact haltStation_offWalk _ (h.of_same (by simp) (by simp))
  · exact h.of_same (by simp) (by simp)

theorem threadLimitReached_offWalk (h : s.offWalk l) : (threadLimitReached s).offWalk l := by
  unfold threadLimitReached
  split
  · exact h
  · split
    · exact h.of_same (by simp) (by simp)
    · exact h.of_same (by simp) (by simp)
    · exact skipThreadLimit_offWalk _ h
    · split
      · exact h.of_same (by simp) (by simp)
      · exact skipThreadLimit_offWalk _ h

theorem attemptFailed_offWalk (f : ThreadFailure) (h : s.offWalk l) : (attemptFailed f s).offWalk l := by
  unfold attemptFailed atBoundary
  simp only
  split
  · exact h.of_same (by simp) (by simp)
  · split
    · exact threadLimitReached_offWalk (h.of_same (by simp) (by simp))
    · exact h.of_same (by simp) (by simp)

theorem actOn_offWalk (i : Input) (v : Level) (h : s.offWalk l) : (actOn i v s).offWalk l := by
  cases i with
  | contact => exact h.of_same (by simp [actOn]) (by simp [actOn])
  | tensionOk =>
    rw [actOn]
    split
    · exact h.of_same (by simp) (by simp)
    · exact h.of_same (by simp) (by simp)
  | cutterDone => exact h.of_same (by simp [actOn]) (by simp [actOn])
  | supplySag => exact attemptFailed_offWalk _ h
  | drop => exact h.of_same (by simp [actOn]) (by simp [actOn])
  | wireLow | limit => exact haltStation_offWalk _ h

theorem takeEvent_offWalk (i : Input) (v : Level) (h : s.offWalk l) : (takeEvent i v s).offWalk l := by
  unfold takeEvent
  split
  · exact actOn_offWalk i v h
  · exact h.of_same (by simp) (by simp)

theorem conclude_offWalk (b : State) (h : s.offWalk l) : (conclude b s).offWalk l :=
  h.of_same (by simp [conclude]) (by simp [conclude])

theorem drain_offWalk : ∀ (n : Nat) {s : State}, s.offWalk l → (drain n s).offWalk l
  | 0, _, h => h
  | n + 1, s, h => by
    rw [drain]
    split
    · exact h
    · exact drain_offWalk n (conclude_offWalk _ (takeEvent_offWalk _ _ (h.of_same (by simp) (by simp))))

theorem finish_offWalk (b : State) (h : s.offWalk l) : (finish b s).offWalk l := by
  have hquiet : (quiesce b s).offWalk l := drain_offWalk 16 (conclude_offWalk b h)
  exact drain_offWalk 16 (conclude_offWalk _ (hquiet.of_same (by simp) (by simp)))

end

/-! ### The walk reads the store and tables alone (R14) -/

section
variable (s : State) (b : Bool)

theorem checkRecord_walking (retain : Bool) (w : WalkPoint) (r : PathRecord) :
    checkRecord { s with walking := b } retain w r = checkRecord s retain w r := by
  cases r <;> rfl

theorem walkContour_walking (retain : Bool) (fail : Cause → PathIndex → WalkFailure) :
    ∀ (n : Nat) (w : WalkPoint),
      walkContour { s with walking := b } retain fail n w = walkContour s retain fail n w
  | 0, _ => rfl
  | n + 1, w => by
    have hread : State.readRecord { s with walking := b } retain w = s.readRecord retain w :=
      checkRecord_walking s b retain _ _
    rw [walkContour_succ, walkContour_succ, hread]
    split
    · rfl
    · rfl
    · exact walkContour_walking retain fail n _

theorem walkPass_walking (p : PartNo) : walkPass { s with walking := b } p = walkPass s p := by
  funext locks pass
  unfold walkPass
  simp only [walkContour_walking]
  rfl

theorem walkPart_walking : walkPart { s with walking := b } = walkPart s := by
  funext locks p
  unfold walkPart
  rw [walkPass_walking]
  rfl

theorem walkJob_walking : walkJob { s with walking := b } = walkJob s := by
  unfold walkJob
  rw [walkPart_walking]

end

/-! ### The order of a selection point (R23) -/

section
variable {s : State} {p : PartNo}

/-- The lowest-numbered enabled part that a test accepts is found. -/
theorem findPart_eq_some {test : PartRecord → Bool} (hp : (s.part p).enabled = true) (ht : test (s.part p) = true)
    (hlow : ∀ q, q < p → (s.part q).enabled = true → test (s.part q) = false) : findPart s test = some p := by
  obtain ⟨l, m, hlm, hlt⟩ := allParts_split p
  have hnone : l.find? (fun q => (s.part q).enabled && test (s.part q)) = none :=
    List.find?_eq_none.2 fun q hq hc => by
      obtain ⟨hen, htest⟩ := Bool.and_eq_true_iff.1 hc
      exact Bool.false_ne_true ((hlow q (hlt q hq) hen).symm.trans htest)
  rw [findPart, hlm, List.find?_append, hnone, Option.none_or, List.find?_cons_of_pos]
  rw [hp, ht]; rfl

/-- With no enabled part that a test accepts, none is found. -/
theorem findPart_eq_none {test : PartRecord → Bool}
    (h : ∀ q, (s.part q).enabled = true → test (s.part q) = false) : findPart s test = none :=
  List.find?_eq_none.2 fun q _ hc => by
    obtain ⟨hen, htest⟩ := Bool.and_eq_true_iff.1 hc
    exact Bool.false_ne_true ((h q hen).symm.trans htest)

/-- The part to be taken up that is lowest-numbered among those of one rank. -/
def State.findRank (s : State) (k : Nat) : Option PartNo := findPart s fun r => decide (r.rank = some k)

/-- The four tests of a selection point are the four ranks. -/
theorem rank_tests (r : PartRecord) :
    (r.state == .interrupted && r.stage == .off) = decide (r.rank = some 1) ∧
      (r.state == .uncut) = decide (r.rank = some 2) ∧
      (r.state == .interrupted && r.stage != .off) = decide (r.rank = some 3) ∧
      (r.state == .tabbed) = decide (r.rank = some 4) := by
  unfold PartRecord.rank
  cases r.state with
  | interrupted => cases r.stage <;> exact ⟨rfl, rfl, rfl, rfl⟩
  | uncut | active | separating | tabbed | released | hung | skipped => exact ⟨rfl, rfl, rfl, rfl⟩

/-- The order of R23 is the order of the ranks. -/
theorem choosePart_eq (s : State) :
    choosePart s = (s.findRank 1 <|> s.findRank 2 <|> s.findRank 3 <|> s.findRank 4) := by
  have h1 := funext fun r => by obtain ⟨h, -⟩ := rank_tests r; exact h
  have h2 := funext fun r => by obtain ⟨-, h, -⟩ := rank_tests r; exact h
  have h3 := funext fun r => by obtain ⟨-, -, h, -⟩ := rank_tests r; exact h
  have h4 := funext fun r => by obtain ⟨-, -, -, h⟩ := rank_tests r; exact h
  rw [choosePart, h1, h2, h3, h4]; rfl

theorem rank_eq_one {r : PartRecord} (h : r.rank = some 1) : r.state = .interrupted ∧ r.stage = .off := by
  obtain ⟨htest, -⟩ := rank_tests r
  rw [decide_eq_true h, Bool.and_eq_true_iff, beq_iff_eq, beq_iff_eq] at htest
  exact htest

theorem rank_eq_two {r : PartRecord} : r.rank = some 2 ↔ r.state = .uncut := by
  obtain ⟨-, htest, -⟩ := rank_tests r
  rw [← beq_iff_eq (a := r.state), htest, decide_eq_true_iff]

/-- A part in a final state is not taken up. -/
theorem rank_final {r : PartRecord} (h : r.state = .released ∨ r.state = .hung ∨ r.state = .skipped) :
    r.rank = none := by
  rcases h with h | h | h
  all_goals rw [PartRecord.rank, h]

/-- A rank is one of the four. -/
theorem rank_cases {r : PartRecord} {k : Nat} (h : r.rank = some k) : k = 1 ∨ k = 2 ∨ k = 3 ∨ k = 4 := by
  unfold PartRecord.rank at h
  split at h <;> simp_all

/-- The lowest-numbered UNCUT part is selected where no part is INTERRUPTED in the cutting phase. -/
theorem selects_uncut
    (hcutting : ∀ q, (s.part q).enabled = true → ¬((s.part q).state = .interrupted ∧ (s.part q).stage = .off))
    (hp : (s.part p).enabled = true) (huncut : (s.part p).state = .uncut)
    (hlow : ∀ q, q < p → ¬((s.part q).enabled = true ∧ (s.part q).state = .uncut)) : s.selects p := by
  refine ⟨hp, 2, rank_eq_two.2 huncut, fun q hq j hj => ?_⟩
  rcases rank_cases hj with rfl | rfl | rfl | rfl
  · exact absurd (rank_eq_one hj) (hcutting q hq)
  · exact .inr ⟨rfl, Fin.not_lt.1 fun hlt => hlow q hlt ⟨hq, rank_eq_two.1 hj⟩⟩
  · exact .inl (by decide)
  · exact .inl (by decide)

/-- A selection point takes the part that the order of R23 selects. -/
theorem choosePart_of_selects (h : s.selects p) : choosePart s = some p := by
  obtain ⟨hp, k, hk, hbest⟩ := h
  have hnone : ∀ j, j < k → s.findRank j = none := fun j hj =>
    findPart_eq_none fun q hq => decide_eq_false fun hr => by
      rcases hbest q hq j hr with h | ⟨h, -⟩
      · exact Nat.lt_asymm h hj
      · exact Nat.ne_of_gt hj h
  have hsome : s.findRank k = some p :=
    findPart_eq_some hp (decide_eq_true hk) fun q hq hen => decide_eq_false fun hr => by
      rcases hbest q hen k hr with h | ⟨-, h⟩
      · exact absurd h (Nat.lt_irrefl k)
      · exact absurd hq (Fin.not_lt.2 h)
  rw [choosePart_eq]
  rcases rank_cases hk with rfl | rfl | rfl | rfl
  · rw [hsome]; rfl
  · rw [hnone 1 (by decide), hsome]; rfl
  · rw [hnone 1 (by decide), hnone 2 (by decide), hsome]; rfl
  · rw [hnone 1 (by decide), hnone 2 (by decide), hnone 3 (by decide), hsome]; rfl

/-- With no enabled part to be taken up, a selection point takes none. -/
theorem choosePart_none (h : ∀ q, (s.part q).enabled = true → (s.part q).rank = none) : choosePart s = none := by
  have hnone : ∀ k, s.findRank k = none := fun k =>
    findPart_eq_none fun q hq => decide_eq_false (by rw [h q hq]; exact Option.some_ne_none k ∘ Eq.symm)
  rw [choosePart_eq, hnone, hnone, hnone, hnone]; rfl

end

/-! ### The entry to RUN (R45) -/

/-- An input set to the level it has raises no event. -/
theorem expect_of_level {s : State} {i : Input} {l : Level} (h : (s.filters.get i).level = l) :
    expect i l s = modFilter i (fun f => { f with expected := l }) s := by
  have hlevel : ((modFilter i (fun f => { f with expected := l }) s).filters.get i).level = l := by
    rw [← h]; cases i <;> rfl
  exact if_neg (fun hne => hne hlevel)

/-- LIMIT and WIRE_LOW are watched where both are clear. -/
theorem watchLimits_eq {s : State} (hl : s.filters.limit.level = .clear) (hw : s.filters.wireLow.level = .clear) :
    expect .wireLow .clear (expect .limit .clear s) =
      { s with filters := { s.filters with limit := { s.filters.limit with expected := .clear }
                                           wireLow := { s.filters.wireLow with expected := .clear } } } := by
  rw [expect_of_level (i := .limit) hl, expect_of_level (i := .wireLow) (by exact hw)]
  rfl

/-- The station in RUN after the walk, before its first selection point: OK answered, the records locked, the counts
and the latch cleared, LIMIT and WIRE_LOW awaited clear. -/
def State.inRun (s : State) (r : Request) (locks : List Nat) : State :=
  { s with
    walking := false, locks := locks, link := s.answering r .ok []
    seq := { s.seq with station := .run, skipCount := 0, dropCount := 0, skipOwed := false, owed := none }
    filters := { s.filters with limit := { s.filters.limit with expected := .clear }
                                wireLow := { s.filters.wireLow with expected := .clear } } }

/-- A walk that has passed, in IDLE, on a calm state with LIMIT and WIRE_LOW clear. -/
structure Passed (s : State) (r : Request) (rest : List Request) (locks : List Nat) : Prop where
  walking : s.walking = true
  idle : s.seq.station = .idle
  ok : walkJob s = .ok locks
  buffer : s.link.buffer = r :: rest
  calm : s.calm
  limit : s.filters.limit.level = .clear
  wireLow : s.filters.wireLow.level = .clear

section
variable {s : State} {r : Request} {rest : List Request} {locks : List Nat} {p : PartNo}

/-- The end of a walk that passed answers OK, locks the records and enters RUN. -/
theorem execValidationWalkEnd_passes (hw : s.walking = true) (hidle : s.seq.station = .idle)
    (hok : walkJob s = .ok locks) (hb : s.link.buffer = r :: rest) :
    exec .validationWalkEnd s =
      .next (finish s (enterRun { s with walking := false, locks := locks, link := s.answering r .ok [] })) := by
  have hanswer := answer_eq (s := (s.setWalking false).setLocks locks) (congrArg List.head? hb) .ok []
  change execValidationWalkEnd s = _
  rw [execValidationWalkEnd, if_pos ⟨hw, hidle⟩, hok]
  exact congrArg (fun t => Host.Outcome.next (finish s (enterRun t))) hanswer

theorem Passed.enterRun_eq (h : Passed s r rest locks) :
    enterRun { s with walking := false, locks := locks, link := s.answering r .ok [] } =
      selectionPoint (s.inRun r locks) := by
  unfold enterRun
  dsimp only
  rw [watchLimits_eq (by exact h.limit) (by exact h.wireLow)]
  rfl

/-- The end of a walk that passed, down to the part that the selection point takes. -/
theorem Passed.exec_eq (h : Passed s r rest locks) :
    exec .validationWalkEnd s = .next (finish s (match choosePart s with
      | some p => beginPart p (s.inRun r locks)
      | none => jobEnd (s.inRun r locks))) := by
  have hrun : ¬(s.inRun r locks).seq.station = .held := Station.noConfusion
  rw [execValidationWalkEnd_passes h.walking h.idle h.ok h.buffer, h.enterRun_eq, selectionPoint, if_neg hrun]
  rfl

end

/-! ### Taking a part up (R25, R29, R148) -/

section
variable {s u : State} {r : Request} {rest : List Request} {locks : List Nat} {p : PartNo}

/-- A part record rewritten at selection, with its PART report. -/
def State.takenUp (u : State) (p : PartNo) (w : PartRecord) : State :=
  { u with
    nest := u.nest.set p w
    reports := (queueReport .part (some p) none (w.state.code + 256 * passCode w.pass) u).reports }

theorem takeUp_eq (p : PartNo) (f : PartRecord → PartRecord) (u : State) :
    takeUp p f u = u.takenUp p (f (u.part p)) := by
  rw [takeUp, partReport, modPart_part_self]
  rfl

theorem takenUp_part_self (u : State) (p : PartNo) (w : PartRecord) : (u.takenUp p w).part p = w :=
  modPart_part_self p (fun _ => w) u

theorem takenUp_part_ne {q : PartNo} (h : q ≠ p) (u : State) (w : PartRecord) : (u.takenUp p w).part q = u.part q :=
  modPart_part_ne h (fun _ => w) u

/-- A cut request with nothing in hand and CUTTER_DONE clear enters CUT_TIP. -/
theorem requestCut_off (hthr : u.thr.request = .off) (hc : u.filters.cutterDone.level = .clear) :
    requestCut false u = { u with thr := u.thr.severing, filters := u.filters.cutTip } := by
  have hcheck : ¬(false = true ∧ ((discardRequest u).modThr fun t =>
      { t with request := .cut, tensionCheck := false }).thr.wire = .threaded) := fun h => Bool.false_ne_true h.1
  rw [requestCut, if_neg hcheck, discardRequest, if_pos hthr, enterCutTip,
    expect_of_level (i := .cutterDone) (by exact hc)]
  rfl

theorem severing_phase (t : Threader) : t.severing.phase ≠ .annealWait := Phase.noConfusion

/-- A resumption begins with the wire cut of its route. -/
theorem beginResumption_off (hthr : u.thr.request = .off) (hc : u.filters.cutterDone.level = .clear) (rt : Route) :
    beginResumption rt u =
      { u with seq := { u.seq with activity := some .recovering, route := rt, step := some .cut }
               thr := u.thr.severing, filters := u.filters.cutTip } := by
  rw [beginResumption, requestCut_off (by exact hthr) (by exact hc)]
  rfl

/-- The part is the current part. -/
def State.withCurrent (u : State) (p : PartNo) : State := u.modSeq fun q => { q with current := some p }

theorem takeUp_current (p : PartNo) (f : PartRecord → PartRecord) (u : State) :
    takeUp p f (u.modSeq fun q => { q with current := some p }) = (u.withCurrent p).takenUp p (f (u.part p)) :=
  takeUp_eq p f (u.withCurrent p)

theorem beginPart_uncut (h : (u.part p).state = .uncut) :
    beginPart p u = requestMove (u.part p).startHole (setActivity .moving (u.withCurrent p)) := by
  rw [beginPart, h]
  rfl

theorem beginPart_resumes (h : (u.part p).state = .interrupted) (hs : (u.part p).stage = .off) :
    beginPart p u = beginResumption .hole ((u.withCurrent p).takenUp p { u.part p with state := .active }) := by
  rw [beginPart, h, hs]
  dsimp only
  rw [takeUp_current]

theorem beginPart_separates (h : (u.part p).state = .interrupted) (hs : (u.part p).stage = .cut)
    (hb : (u.part p).breakPoint.isSome) :
    beginPart p u = beginResumption .tab
      ((u.withCurrent p).takenUp p { u.part p with state := .separating, pass := some .separation }) := by
  rw [beginPart, h, hs]
  dsimp only
  rw [if_pos hb, takeUp_current]

/-- The move to a tab point of a part taken up. -/
theorem requestMove_tab {w : PartRecord} {at_ : TabPoint} (ht : w.tab = some at_) (u : State) :
    requestMove (tabTarget p (u.takenUp p w)) (setActivity .moving (u.takenUp p w)) =
      { u.takenUp p w with seq := { u.seq with activity := some .moving }, exe := u.exe.bound at_.at_ } := by
  rw [tabTarget, takenUp_part_self, ht]
  rfl

theorem beginPart_moves {at_ : TabPoint} (h : (u.part p).state = .interrupted) (hs : (u.part p).stage = .cut)
    (hb : (u.part p).breakPoint = none) (ht : (u.part p).tab = some at_) :
    beginPart p u =
      { (u.withCurrent p).takenUp p { u.part p with state := .separating, pass := some .separation } with
        seq := { (u.withCurrent p).seq with activity := some .moving }, exe := u.exe.bound at_.at_ } := by
  rw [beginPart, h, hs]
  dsimp only
  rw [if_neg (by rw [hb]; exact Bool.false_ne_true)]
  rw [takeUp_current]
  exact requestMove_tab (by exact ht) (u.withCurrent p)

theorem beginPart_tabbed {at_ : TabPoint} (h : (u.part p).state = .tabbed) (ht : (u.part p).tab = some at_) :
    beginPart p u =
      { (u.withCurrent p).takenUp p
          { u.part p with state := .separating, stage := .cut, pass := some .separation } with
        seq := { (u.withCurrent p).seq with activity := some .moving }, exe := u.exe.bound at_.at_ } := by
  rw [beginPart, h]
  dsimp only
  rw [takeUp_current]
  exact requestMove_tab (by exact ht) (u.withCurrent p)

theorem beginPart_window (h : (u.part p).state = .interrupted) (hs : (u.part p).stage = .window) :
    beginPart p u =
      { (u.withCurrent p).takenUp p { u.part p with state := .separating, pass := some .separation } with
        seq := { (u.withCurrent p).seq with activity := some .dropWatch, window := some u.setup.dropTime } } := by
  rw [beginPart, h, hs]
  dsimp only
  rw [takeUp_current]
  rfl

/-- The end of a walk that passed, where the part selected is taken up with a PART report. -/
theorem Passed.takes (h : Passed s r rest locks) (hsel : s.selects p) {seq : Sequencer} {thr : Threader}
    {filters : Filters} {exe : Executor} {w : PartRecord} (hphase : thr.phase ≠ .annealWait)
    (hbegin : beginPart p (s.inRun r locks) =
      { (s.inRun r locks).takenUp p w with seq := seq, thr := thr, filters := filters, exe := exe }) :
    ∃ t, exec .validationWalkEnd s = .next t ∧
      State.settles s
        { s with walking := false, locks := locks, link := s.answering r .ok [], seq := seq, thr := thr
                 filters := filters, exe := exe, nest := t.nest
                 reports := (queueReport .part (some p) none (w.state.code + 256 * passCode w.pass) s).reports } t ∧
      (∀ q, q ≠ p → t.part q = s.part q) ∧ t.part p = w := by
  have hx := h.exec_eq
  rw [choosePart_of_selects hsel] at hx
  dsimp only at hx
  have hset := finish_settles (beginPart p (s.inRun r locks)) s (by rw [hbegin]; exact ⟨h.calm.1, hphase⟩)
  generalize finish s (beginPart p (s.inRun r locks)) = t at hx hset
  obtain ⟨-, -, -, -, -, hnest, -⟩ := settles_rest hset
  have hpart : ∀ q, t.part q = ((s.inRun r locks).takenUp p w).part q := fun q => by
    rw [State.part, hnest, hbegin]; rfl
  refine ⟨t, hx, ?_, fun q hq => ?_, ?_⟩
  · rw [hnest]
    rw [hbegin] at hset ⊢
    exact hset
  · rw [hpart, takenUp_part_ne hq]; rfl
  · rw [hpart, takenUp_part_self]

end

end Sys2Proof.Machine

open Sys2Proof Sys2Proof.Machine

/-- Settles O25: the end of the walk enters RUN, the selection point takes the part of the lowest rank, and what that
part needs begins; with no part to take the job ends. -/
theorem passedWalkStartsOrEndsTheJob : Obligations.PassedWalkStartsOrEndsTheJob := by
  refine ⟨fun s hf hidle => ?_, ?_, ?_, ?_⟩
  · obtain ⟨rest, hb⟩ := List.head?_eq_some_iff.1 (head_of_front hf)
    refine ⟨_, execStartJob_takes hf hidle, rfl, ?_, walkJob_walking s true, ?_⟩
    · simp [State.front]
    · cases hwalk : walkJob s with
      | error f =>
        refine ⟨_, execValidationWalkEnd_fails rfl hidle ((walkJob_walking s true).trans hwalk) hb, rfl, .invalid,
          f.bytes, rfl, fun _ => rfl, fun ⟨_, h⟩ => (nomatch h)⟩
      | ok locks =>
        have hoff : State.offWalk
            (enterRun { s with walking := false, locks := locks, link := s.answering ⟨0x06, []⟩ .ok [] })
            (s.answering ⟨0x06, []⟩ .ok []) := ⟨by simp [enterRun], by simp [enterRun]⟩
        obtain ⟨hw, hl⟩ := finish_offWalk { s with walking := true } hoff
        exact ⟨_, execValidationWalkEnd_passes rfl hidle ((walkJob_walking s true).trans hwalk) hb, hw, .ok, [], hl,
          fun ⟨_, h⟩ => (nomatch h), fun _ => rfl⟩
  · intro s r rest locks p hw hidle hok hb hcalm hl hwl hcutting hp huncut hlow
    have h : Passed s r rest locks := ⟨hw, hidle, hok, hb, hcalm, hl, hwl⟩
    have hx := h.exec_eq
    rw [choosePart_of_selects (selects_uncut hcutting hp huncut hlow)] at hx
    dsimp only at hx
    rw [beginPart_uncut (by exact huncut)] at hx
    exact ⟨_, hx, finish_settles _ s hcalm⟩
  · intro s r rest locks p hw hidle hok hb hcalm hl hwl hcd hthr hsel
    have h : Passed s r rest locks := ⟨hw, hidle, hok, hb, hcalm, hl, hwl⟩
    refine ⟨fun hst hsg => ?_, fun hst hsg hbp => ?_, fun hst hsg => ?_,
      fun at_ ht => ⟨fun hst hsg hbp => ?_, fun hst => ?_⟩⟩
    · refine h.takes hsel (severing_phase s.thr) ?_
      rw [beginPart_resumes (by exact hst) (by exact hsg), beginResumption_off (by exact hthr) (by exact hcd)]
      rfl
    · refine h.takes hsel (severing_phase s.thr) ?_
      rw [beginPart_separates (by exact hst) (by exact hsg) (by exact hbp),
        beginResumption_off (by exact hthr) (by exact hcd)]
      rfl
    · exact h.takes hsel hcalm.2 ((beginPart_window (by exact hst) (by exact hsg)).trans rfl)
    · exact h.takes hsel hcalm.2 ((beginPart_moves (by exact hst) (by exact hsg) (by exact hbp) (by exact ht)).trans rfl)
    · exact h.takes hsel hcalm.2 ((beginPart_tabbed (by exact hst) (by exact ht)).trans rfl)
  · intro s r rest locks hw hidle hok hb hcalm hl hwl hfinal
    have h : Passed s r rest locks := ⟨hw, hidle, hok, hb, hcalm, hl, hwl⟩
    have hx := h.exec_eq
    rw [choosePart_none fun q hq => rank_final (hfinal q hq)] at hx
    dsimp only at hx
    rw [jobEnd, enterIdle_eq] at hx
    exact ⟨_, hx, finish_settles _ s hcalm⟩
end

section
/-! What no event writes of a part record: its host-set fields, and an erosion time below the one it had (R17, R27):
O12. The operations that leave the Nest Table alone do so by their frame lemmas; the others are taken here one by one.
A frame lemma holds by `rfl`, and a side goal closed through one is defeq only by unfolding the operation:
`-implicitDefEqProofs` has simp write that step out. -/

namespace Sys2Proof.Machine

/-- A part record that an event made of `a`: the host-set fields of `a`, and no less erosion time, as far as its 32
bits hold it. -/
def PartRecord.follows (r a : PartRecord) : Prop :=
  r.sameHostFields a ∧ min a.erosion 4294967295 ≤ r.erosion

theorem PartRecord.follows_refl (r : PartRecord) : r.follows r :=
  ⟨⟨rfl, rfl, rfl, rfl, rfl, rfl, rfl, rfl, rfl, rfl⟩, Nat.min_le_left _ _⟩

theorem PartRecord.follows_trans {r a b : PartRecord} (hra : r.follows a) (hab : a.follows b) : r.follows b := by
  obtain ⟨⟨h1, h2, h3, h4, h5, h6, h7, h8, h9, h10⟩, he⟩ := hra
  obtain ⟨⟨k1, k2, k3, k4, k5, k6, k7, k8, k9, k10⟩, ke⟩ := hab
  exact ⟨⟨h1.trans k1, h2.trans k2, h3.trans k3, h4.trans k4, h5.trans k5, h6.trans k6, h7.trans k7, h8.trans k8,
    h9.trans k9, h10.trans k10⟩, by omega⟩

/-- A write of device-owned fields other than the erosion time. -/
def DeviceWrite (f : PartRecord → PartRecord) : Prop := ∀ r, (f r).sameHostFields r ∧ (f r).erosion = r.erosion

theorem DeviceWrite.follows {f : PartRecord → PartRecord} (h : DeviceWrite f) (r : PartRecord) : (f r).follows r :=
  ⟨(h r).1, by rw [(h r).2]; exact Nat.min_le_left _ _⟩

theorem deviceWrite_interrupted : DeviceWrite PartRecord.interrupted := fun _ =>
  ⟨⟨rfl, rfl, rfl, rfl, rfl, rfl, rfl, rfl, rfl, rfl⟩, rfl⟩

theorem deviceWrite_final (st : PartState) (c : Option Cause) : DeviceWrite (PartRecord.final st c) := fun _ =>
  ⟨⟨rfl, rfl, rfl, rfl, rfl, rfl, rfl, rfl, rfl, rfl⟩, rfl⟩

/-- A write of any of the device-owned fields but the erosion time. -/
@[simp] theorem deviceWrite_fields {state : PartRecord → PartState} {cause : PartRecord → Option Cause}
    {stage : PartRecord → Stage} {pass : PartRecord → Option Pass} {progress : PartRecord → Option PathPoint}
    {tab : PartRecord → Option TabPoint} {breakPoint : PartRecord → Option PathPoint} {breakCount : PartRecord → Nat} :
    DeviceWrite fun r =>
      { r with state := state r, cause := cause r, stage := stage r, pass := pass r, progress := progress r
               tab := tab r, breakPoint := breakPoint r, breakCount := breakCount r } := fun _ =>
  ⟨⟨rfl, rfl, rfl, rfl, rfl, rfl, rfl, rfl, rfl, rfl⟩, rfl⟩

theorem deviceWrite_progressed (front : Option PathPoint) : DeviceWrite (PartRecord.progressed front) := fun r => by
  unfold PartRecord.progressed
  (repeat' split) <;> exact ⟨⟨rfl, rfl, rfl, rfl, rfl, rfl, rfl, rfl, rfl, rfl⟩, rfl⟩

/-- Every record of a Nest Table follows the one in its place. -/
def NestFollows (n m : Vector PartRecord 32) : Prop := ∀ p : PartNo, m[p].follows n[p]

variable {n : Vector PartRecord 32} {s : State}

@[simp] theorem NestFollows.refl (n : Vector PartRecord 32) : NestFollows n n := fun _ => PartRecord.follows_refl _

/-! ### Machine/Ops.lean -/

theorem follows_modPart {p : PartNo} {f : PartRecord → PartRecord} (hf : ∀ r, (f r).follows r)
    (h : NestFollows n s.nest) : NestFollows n (modPart p f s).nest := by
  intro q
  show ((modPart p f s).part q).follows _
  by_cases hq : q = p
  · rw [hq, modPart_part_self]
    exact PartRecord.follows_trans (hf _) (h p)
  · rw [modPart_part_ne hq]
    exact h q

@[simp] theorem follows_deviceWrite {p : PartNo} {f : PartRecord → PartRecord} (hf : DeviceWrite f)
    (h : NestFollows n s.nest) : NestFollows n (modPart p f s).nest := follows_modPart hf.follows h

@[simp] theorem follows_interrupt (c p) (h : NestFollows n s.nest) : NestFollows n (interrupt c p s).nest := by
  simp -implicitDefEqProofs [interrupt, deviceWrite_interrupted, h]

theorem follows_interruptFound (c) (h : NestFollows n s.nest) : NestFollows n (interruptFound c s).nest := by
  unfold interruptFound
  induction allParts generalizing s with
  | nil => exact h
  | cons p ps ih =>
    rw [List.foldl_cons]
    refine ih ?_
    split <;> simp -implicitDefEqProofs [h]

@[simp] theorem follows_interruptCurrent (c) (h : NestFollows n s.nest) :
    NestFollows n (interruptCurrent c s).nest := by
  unfold interruptCurrent; split <;> simp -implicitDefEqProofs [h]

theorem follows_jobGate {takenIn : List Station} {body : State → State} (hbody : NestFollows n (body s).nest)
    (h : NestFollows n s.nest) : NestFollows n (jobGate takenIn body s).nest := by
  unfold jobGate
  (repeat' split) <;> simp -implicitDefEqProofs [h, hbody]

/-! ### Machine/Units.lean -/

@[simp] theorem follows_startPass (p a i st c t k) (h : NestFollows n s.nest) :
    NestFollows n (startPass p a i st c t k s).nest := by
  unfold startPass
  dsimp only
  split <;> simp -implicitDefEqProofs [h]

@[simp] theorem follows_startContour (p a st t k) (h : NestFollows n s.nest) :
    NestFollows n (startContour p a st t k s).nest := by simp -implicitDefEqProofs [startContour, h]

@[simp] theorem follows_startSeparation (p t) (h : NestFollows n s.nest) :
    NestFollows n (startSeparation p t s).nest := by
  unfold startSeparation; split <;> simp -implicitDefEqProofs [h]

/-! ### Machine/Sequencer.lean -/

@[simp] theorem follows_finishPart (p st c) (h : NestFollows n s.nest) :
    NestFollows n (finishPart p st c s).nest := by
  unfold finishPart
  dsimp only
  split <;> simp -implicitDefEqProofs [h, deviceWrite_final]

@[simp] theorem follows_takeUp {p f} (hf : DeviceWrite f) (h : NestFollows n s.nest) :
    NestFollows n (takeUp p f s).nest := by simp -implicitDefEqProofs [takeUp, hf, h]

@[simp] theorem follows_beginPart (p) (h : NestFollows n s.nest) : NestFollows n (beginPart p s).nest := by
  unfold beginPart
  dsimp only
  (repeat' split) <;> simp -implicitDefEqProofs [h]

@[simp] theorem follows_selectionPoint (h : NestFollows n s.nest) : NestFollows n (selectionPoint s).nest := by
  unfold selectionPoint; (repeat' split) <;> simp -implicitDefEqProofs [h]

@[simp] theorem follows_haltStation (c) (h : NestFollows n s.nest) : NestFollows n (haltStation c s).nest := by
  unfold haltStation
  dsimp only
  split <;> simp -implicitDefEqProofs [h]

@[simp] theorem follows_skipWorked (p c) (h : NestFollows n s.nest) : NestFollows n (skipWorked p c s).nest := by
  simp -implicitDefEqProofs [skipWorked, h]

@[simp] theorem follows_actSkip (b) (h : NestFollows n s.nest) : NestFollows n (actSkip b s).nest := by
  unfold actSkip
  dsimp only
  (repeat' split) <;> simp -implicitDefEqProofs [h]

theorem follows_atBoundary {next : State → State} (hn : NestFollows n (next s).nest) (h : NestFollows n s.nest) :
    NestFollows n (atBoundary next s).nest := by
  unfold atBoundary; split <;> simp -implicitDefEqProofs [h, hn]

@[simp] theorem follows_skipThreadLimit (p) (h : NestFollows n s.nest) :
    NestFollows n (skipThreadLimit p s).nest := by
  unfold skipThreadLimit
  dsimp only
  split <;> simp -implicitDefEqProofs [h]

@[simp] theorem follows_countBreak (p) (h : NestFollows n s.nest) : NestFollows n (countBreak p s).nest := by
  unfold countBreak
  dsimp only
  (repeat' split) <;> simp -implicitDefEqProofs [h]

@[simp] theorem follows_breakTaken (c) (h : NestFollows n s.nest) : NestFollows n (breakTaken c s).nest := by
  unfold breakTaken
  dsimp only
  (repeat' split) <;> simp -implicitDefEqProofs [h]

@[simp] theorem follows_cutCompleted (h : NestFollows n s.nest) : NestFollows n (cutCompleted s).nest := by
  unfold cutCompleted
  dsimp only
  (repeat' split) <;> simp -implicitDefEqProofs [h]

@[simp] theorem follows_moveArrived (h : NestFollows n s.nest) : NestFollows n (moveArrived s).nest := by
  refine follows_atBoundary ?_ h
  dsimp only
  split <;> simp -implicitDefEqProofs [h]

@[simp] theorem follows_threadCompleted (h : NestFollows n s.nest) : NestFollows n (threadCompleted s).nest := by
  refine follows_atBoundary ?_ h
  dsimp only
  (repeat' split) <;> simp -implicitDefEqProofs [h]

@[simp] theorem follows_threadLimitReached (h : NestFollows n s.nest) :
    NestFollows n (threadLimitReached s).nest := by
  unfold threadLimitReached; (repeat' split) <;> simp -implicitDefEqProofs [h]

@[simp] theorem follows_openWindow (p) (h : NestFollows n s.nest) : NestFollows n (openWindow p s).nest := by
  unfold openWindow
  dsimp only
  split <;> exact follows_atBoundary (by simp -implicitDefEqProofs [h])
    (by simp -implicitDefEqProofs [h])

@[simp] theorem follows_endRecovery (p) (h : NestFollows n s.nest) : NestFollows n (endRecovery p s).nest := by
  simp -implicitDefEqProofs [endRecovery, h]

@[simp] theorem follows_stopTaken (t a c) (h : NestFollows n s.nest) : NestFollows n (stopTaken t a c s).nest := by
  unfold stopTaken
  dsimp only
  (repeat' split) <;> simp -implicitDefEqProofs [h]

@[simp] theorem follows_faultTaken (f) (h : NestFollows n s.nest) : NestFollows n (faultTaken f s).nest := by
  refine follows_atBoundary ?_ h
  split <;> simp -implicitDefEqProofs [h]

@[simp] theorem follows_targetReached (h : NestFollows n s.nest) : NestFollows n (targetReached s).nest := by
  unfold targetReached; split <;> simp -implicitDefEqProofs [h]

@[simp] theorem follows_dropTaken (h : NestFollows n s.nest) : NestFollows n (dropTaken s).nest := by
  unfold dropTaken; (repeat' split) <;> simp -implicitDefEqProofs [earlyDrop, dropInWindow, h]

@[simp] theorem follows_windowExpired (p) (h : NestFollows n s.nest) : NestFollows n (windowExpired p s).nest := by
  unfold windowExpired
  dsimp only
  split <;> simp -implicitDefEqProofs [h]

/-! ### Machine/Threading.lean -/

@[simp] theorem follows_grantTest (h : NestFollows n s.nest) : NestFollows n (grantTest s).nest := by
  unfold grantTest grant; split
  · exact follows_atBoundary (by simp -implicitDefEqProofs [h]) (by simp -implicitDefEqProofs [h])
  · exact h

@[simp] theorem follows_annealTest (h : NestFollows n s.nest) : NestFollows n (annealTest s).nest := by
  unfold annealTest; split
  · exact follows_atBoundary (by simp -implicitDefEqProofs [h]) h
  · exact h

@[simp] theorem follows_annealEnded (h : NestFollows n s.nest) : NestFollows n (annealEnded s).nest :=
  follows_atBoundary (by simp -implicitDefEqProofs [h]) (by simp -implicitDefEqProofs [h])

@[simp] theorem follows_contactTaken (h : NestFollows n s.nest) : NestFollows n (contactTaken s).nest :=
  follows_atBoundary (by simp -implicitDefEqProofs [h]) (by simp -implicitDefEqProofs [h])

@[simp] theorem follows_enterDone (h : NestFollows n s.nest) : NestFollows n (enterDone s).nest :=
  follows_threadCompleted (by simp -implicitDefEqProofs [h])

@[simp] theorem follows_attemptFailed (f) (h : NestFollows n s.nest) : NestFollows n (attemptFailed f s).nest := by
  refine follows_atBoundary ?_ (by simp -implicitDefEqProofs [h])
  split <;> simp -implicitDefEqProofs [h]

@[simp] theorem follows_cutterDoneTaken (h : NestFollows n s.nest) : NestFollows n (cutterDoneTaken s).nest := by
  unfold cutterDoneTaken
  dsimp only
  split
  · simp -implicitDefEqProofs [h]
  · refine follows_atBoundary ?_ (by simp -implicitDefEqProofs [h])
    split <;> simp -implicitDefEqProofs [h]

@[simp] theorem follows_cutterFault (h : NestFollows n s.nest) : NestFollows n (cutterFault s).nest := by
  unfold cutterFault
  dsimp only
  split <;> simp -implicitDefEqProofs [h]

@[simp] theorem follows_wireBroken (h : NestFollows n s.nest) : NestFollows n (wireBroken s).nest :=
  follows_breakTaken _ (by simp -implicitDefEqProofs [h])

/-! ### Machine/Events.lean -/

@[simp] theorem follows_actOn (i l) (h : NestFollows n s.nest) : NestFollows n (actOn i l s).nest := by
  unfold actOn; (repeat' split) <;> simp -implicitDefEqProofs [h]

@[simp] theorem follows_takeEvent (i l) (h : NestFollows n s.nest) : NestFollows n (takeEvent i l s).nest := by
  unfold takeEvent; split <;> simp -implicitDefEqProofs [h]

@[simp] theorem follows_drain (k) (h : NestFollows n s.nest) : NestFollows n (drain k s).nest := by
  induction k generalizing s with
  | zero => exact h
  | succ k ih =>
    unfold drain; split
    · exact h
    · exact ih (by simp -implicitDefEqProofs [conclude, h])

@[simp] theorem follows_quiesce (b : State) (h : NestFollows n s.nest) : NestFollows n (quiesce b s).nest := by
  simp -implicitDefEqProofs [quiesce, conclude, h]

@[simp] theorem follows_finish (b : State) (h : NestFollows n s.nest) : NestFollows n (finish b s).nest :=
  follows_quiesce _ (follows_annealTest (follows_quiesce _ h))

@[simp] theorem follows_sampleInput (i l m) (h : NestFollows n s.nest) :
    NestFollows n (sampleInput i l m s).nest := by
  unfold sampleInput
  dsimp only
  (repeat' split) <;> simp -implicitDefEqProofs [h]

/-! ### Machine/Servo.lean -/

/-- A millisecond of erosion time stops at the end of its 32 bits (R27). -/
theorem follows_eroded (r : PartRecord) :
    PartRecord.follows { r with erosion := min (r.erosion + 1) 4294967295 } r :=
  ⟨⟨rfl, rfl, rfl, rfl, rfl, rfl, rfl, rfl, rfl, rfl⟩, by dsimp only; omega⟩

@[simp] theorem follows_creditPart (c m) (h : NestFollows n s.nest) : NestFollows n (creditPart c m s).nest := by
  unfold creditPart; split
  · exact h
  · refine follows_modPart (fun r => ?_) h
    have hp : (if c then r.progressed s.exe.front else r).follows r := by
      split
      · exact (deviceWrite_progressed s.exe.front).follows r
      · exact r.follows_refl
    dsimp only
    split
    · exact PartRecord.follows_trans (follows_eroded _) hp
    · exact hp

@[simp] theorem follows_handOver (a) (h : NestFollows n s.nest) : NestFollows n (handOver a s).nest := by
  unfold handOver; split <;> simp -implicitDefEqProofs [h]

@[simp] theorem follows_servoExpiry (h : NestFollows n s.nest) : NestFollows n (servoExpiry s).nest := by
  unfold servoExpiry
  dsimp only
  exact follows_finish _ (follows_handOver _ (by simp -implicitDefEqProofs [h]))

/-! ### Machine/Power.lean, Machine/Cell.lean and Machine/Jobs.lean -/

@[simp] theorem follows_enterPowerDown (h : NestFollows n s.nest) : NestFollows n (enterPowerDown s).nest := by
  simp -implicitDefEqProofs [enterPowerDown, portPowerDown, h]

@[simp] theorem follows_resetStation (h : NestFollows n s.nest) : NestFollows n (resetStation s).nest := by
  simp -implicitDefEqProofs [resetStation, followThreaderInputs, wakePort, follows_interruptFound, h]

@[simp] theorem returnLine_nest (s : State) : (returnLine s).nest = s.nest := by
  unfold returnLine; split <;> simp

@[simp] theorem completeFrame_nest (m : Notice) (s : State) : (completeFrame m s).nest = s.nest := by
  unfold completeFrame; dsimp only; split <;> simp

@[simp] theorem completeLastFrame_nest (m : Notice) (s : State) : (completeLastFrame m s).nest = s.nest := by
  simp [completeLastFrame, endLastFrame]

@[simp] theorem endSending_nest (s : State) : (endSending s).nest = s.nest := rfl

@[simp] theorem follows_restoreLine (h : NestFollows n s.nest) : NestFollows n (restoreLine s).nest := by
  unfold restoreLine; split <;> simp -implicitDefEqProofs [h]

@[simp] theorem follows_conflictTest (p m) (h : NestFollows n s.nest) : NestFollows n (conflictTest p m s).nest := by
  unfold conflictTest; split <;> simp -implicitDefEqProofs [h]

@[simp] theorem follows_peerNotice (p m) (h : NestFollows n s.nest) : NestFollows n (peerNotice p m s).nest := by
  unfold peerNotice seeNotice
  dsimp only
  refine follows_conflictTest _ _ (follows_grantTest ?_)
  (repeat' split) <;> simp -implicitDefEqProofs [setPeer, h]

@[simp] theorem follows_ownNumberNotice (m) (h : NestFollows n s.nest) :
    NestFollows n (ownNumberNotice m s).nest := by
  unfold ownNumberNotice seeNotice
  dsimp only
  (repeat' split) <;> simp -implicitDefEqProofs [h]

@[simp] theorem follows_enterRun (h : NestFollows n s.nest) : NestFollows n (enterRun s).nest := by
  simp -implicitDefEqProofs [enterRun, h]

@[simp] theorem follows_leaveHeld (h : NestFollows n s.nest) : NestFollows n (leaveHeld s).nest := by
  unfold leaveHeld doOwed resumeThread
  dsimp only
  (repeat' split) <;> simp -implicitDefEqProofs [h]

@[simp] theorem follows_skipOther (p) (h : NestFollows n s.nest) : NestFollows n (skipOther p s).nest := by
  unfold skipOther; split <;> simp -implicitDefEqProofs [h]

@[simp] theorem follows_skipCurrent (h : NestFollows n s.nest) : NestFollows n (skipCurrent s).nest := by
  unfold skipCurrent; split <;> simp -implicitDefEqProofs [h]

/-! ### The commands -/

theorem placeTaken_nest (part : PartNo) (e : Emission) (r : Placed) (s : State) :
    (placeTaken part e r s).nest = s.nest := by
  unfold placeTaken; split <;> rfl

theorem execEmission_nest {t : State} (h : execEmission s = .next t) : t.nest = s.nest := by
  unfold execEmission State.emit at h
  (repeat' split at h) <;> rename_i heq <;> (repeat' split at heq) <;> simp at heq h
  · obtain ⟨r, -, rfl⟩ := heq
    rw [← h, placeTaken_nest]
  all_goals rw [h]

/-- A restart keeps the part records, and finds the parts at work interrupted (R16). -/
theorem execPowerOn_follows (k : Fin 8) (p f : Fin 16) (s : State) :
    Answers (fun t => NestFollows s.nest t.nest) (execPowerOn k p f s) := by
  obtain ⟨nest, reports, hx, hpart, -⟩ := execPowerOn_next k p f s
  rw [hx, answers_next]
  intro q
  show nest[q].follows _
  rw [hpart q]
  split
  · exact deviceWrite_interrupted.follows _
  · exact PartRecord.follows_refl _

/-- Every command but LOAD PART and CLEAR STORE. -/
theorem exec_follows (c : Instr) (s : State) (hp : c ≠ .loadPart) (hc : c ≠ .clearStore) :
    Answers (fun t => NestFollows s.nest t.nest) (exec c s) := by
  have h : NestFollows s.nest s.nest := NestFollows.refl _
  cases c with
  | loadPart => exact absurd rfl hp
  | clearStore => exact absurd rfl hc
  | powerOn k p f => exact execPowerOn_follows k p f s
  | emission => exact fun t ht => execEmission_nest ht ▸ h
  | dropInputChange | limitInput | wireLowInput | cutterDone | supplySag | contact | tensionOkChange =>
    exact (answers_next _ _).2 (follows_sampleInput _ _ _ h)
  | setup | loadCondition | loadPath | startJob | hold | resume | abort | skipPart =>
    simp only [exec, execSetup, execLoadCondition, execLoadPath, execStartJob, execHold, execResume, execAbort,
      execSkipPart, answers_next]
    split
    · refine follows_jobGate ?_ h
      (repeat' split) <;> simp -implicitDefEqProofs [writeRecords, enterHeld, abortJob]
    · exact h
  | validationWalkEnd =>
    rw [exec, execValidationWalkEnd, answers_next]
    dsimp only
    (repeat' split) <;> simp -implicitDefEqProofs
  | readStatus | readPart | readPeers | readReports | unknownRequest | resetStation | responseSent
      | requestArrival frame | jobLinkFrameDiscard | jobLinkByteTimeout =>
    simp only [exec, execReadStatus, execReadPart, execReadPeers, execReadReports, execUnknownRequest,
      execResetStation, execResponseSent, execRequestArrival, execJobLinkFrameDiscard, execJobLinkByteTimeout, hunt,
      bufferRequest, answers_next]
    (repeat' split) <;> simp -implicitDefEqProofs
  | powerWarn | listenTimerExpiry | servoPeriodExpiry | pulseMeasurement =>
    simp only [exec, execPowerWarn, execListenTimerExpiry, execServoPeriodExpiry, execPulseMeasurement, answers_next]
    split <;> simp -implicitDefEqProofs
  | dropWindowExpiry | cutTipTimeout | sagBlankExpiry | annealExpiry | jetWaitLimitExpiry | feedTimeout
      | tensionTimeout | tensionCheckExpiry =>
    simp only [exec, execDropWindowExpiry, execCutTipTimeout, execSagBlankExpiry, execAnnealExpiry,
      execJetWaitLimitExpiry, execFeedTimeout, execTensionTimeout, execTensionCheckExpiry, sagWatch, answers_next]
    split <;> simp -implicitDefEqProofs
  | transmitStart | transmissionComplete | collision | noticeArrival =>
    simp only [exec, execTransmitStart, execTransmissionComplete, execCollision, execNoticeArrival, lineActivity,
      answers_next]
    (repeat' split) <;> simp -implicitDefEqProofs [startFrame, endLastFrame, countCollision]
  | cellFrameDiscard | spacingTimerExpiry | lineTimerExpiry | refreshTimerExpiry | peerExpiry | settleTimerExpiry =>
    simp only [exec, execCellFrameDiscard, execSpacingTimerExpiry, execLineTimerExpiry, execRefreshTimerExpiry,
      execPeerExpiry, execSettleTimerExpiry, lineActivity, enterDegraded, setPeer, answers_next]
    (repeat' split) <;> simp -implicitDefEqProofs

end Sys2Proof.Machine

open Sys2Proof Sys2Proof.Machine

/-- Settles O12: every other command leaves each part record one that follows the record it had. -/
theorem partFieldsHaveTheirWriters : Obligations.PartFieldsHaveTheirWriters :=
  fun c s _ p hp hc ht => exec_follows c s hp hc _ ht p
end

section
/-! The loads of the tables: SETUP and LOAD CONDITION (O21), LOAD PART and CLEAR STORE (O23). -/

namespace Sys2Proof.Machine

variable {s : State} {r : Request}

/-! ### A request read by its code and length (R171, R183) -/

theorem parse_setup (hc : r.code = 0x01) (hl : r.payload.length = 24) : r.parse = .setup (Setup.read r.payload) := by
  simp [Request.parse, hc, hl]

theorem parse_loadCondition (hc : r.code = 0x02) (hl : r.payload.length = 12) :
    r.parse = .loadCondition (leNat (r.payload.take 1)) (Condition.read (r.payload.drop 1)) := by
  simp [Request.parse, hc, hl]

theorem parse_loadPart (hc : r.code = 0x04) (hl : r.payload.length = 30) :
    r.parse = .loadPart (leNat (r.payload.take 1)) (PartRecord.read (r.payload.drop 1)) := by
  simp [Request.parse, hc, hl]

/-- A field of one byte at the front of a payload. -/
theorem leNat_take_one (l : List Byte) : leNat (l.take 1) = (l.headD 0).toNat := by
  cases l with
  | nil => rfl
  | cons b bs => simp [leNat]

/-! ### What IDLE does with each load -/

theorem jobGate_idle {takenIn : List Station} {body : State → State} (hidle : s.seq.station = .idle)
    (hin : Station.idle ∈ takenIn) : jobGate takenIn body s = body s :=
  jobGate_takes (by rw [hidle]; exact hin) (by rw [hidle]; decide)

theorem execSetup_idle (hf : s.front = some r) (hc : r.code = 0x01) (hl : r.payload.length = 24)
    (hidle : s.seq.station = .idle) :
    exec .setup s = .next (if (Setup.read r.payload).inBounds then
        { s with setup := Setup.read r.payload, link := s.answering r .ok [] }
      else { s with link := s.answering r .refusedRange [] }) := by
  have hb := head_of_front hf
  have hok := answer_eq (s := s.setSetup (Setup.read r.payload)) hb .ok []
  change execSetup s = _
  rw [execSetup, taking_of_front hf, parse_setup hc hl]
  dsimp only
  rw [jobGate_idle hidle (List.mem_singleton_self _), hok, answer_eq hb]
  rfl

theorem execLoadCondition_idle (hf : s.front = some r) (hc : r.code = 0x02) (hl : r.payload.length = 12)
    (hidle : s.seq.station = .idle) :
    exec .loadCondition s = .next (
      if h : (r.payload.headD 0).toNat < 16 then
        if (Condition.read (r.payload.drop 1)).inBounds then
          { s with conds := s.conds.set (r.payload.headD 0).toNat (Condition.read (r.payload.drop 1))
                   link := s.answering r .ok [] }
        else { s with link := s.answering r .refusedRange [] }
      else { s with link := s.answering r .refusedRange [] }) := by
  have hb := head_of_front hf
  have hok := fun conds => answer_eq (s := s.setConds conds) hb .ok []
  change execLoadCondition s = _
  rw [execLoadCondition, taking_of_front hf, parse_loadCondition hc hl, leNat_take_one]
  dsimp only
  rw [jobGate_idle hidle (List.mem_singleton_self _)]
  simp only [hok, answer_eq hb]
  rfl

theorem execLoadPart_idle (hf : s.front = some r) (hc : r.code = 0x04) (hl : r.payload.length = 30)
    (hidle : s.seq.station = .idle) :
    exec .loadPart s = .next (
      if h : (r.payload.headD 0).toNat < 32 then
        if (PartRecord.read (r.payload.drop 1)).inBounds then
          { modPart ⟨(r.payload.headD 0).toNat, h⟩ (fun _ => PartRecord.read (r.payload.drop 1)) s with
            link := s.answering r .ok [] }
        else { s with link := s.answering r .refusedRange [] }
      else { s with link := s.answering r .refusedRange [] }) := by
  have hb := head_of_front hf
  have hok := fun p f => answer_eq (s := modPart p f s) hb .ok []
  change execLoadPart s = _
  rw [execLoadPart, taking_of_front hf, parse_loadPart hc hl, leNat_take_one]
  dsimp only
  rw [jobGate_idle hidle (List.mem_singleton_self _)]
  simp only [hok, answer_eq hb]
  rfl

theorem execClearStore_idle (hf : s.front = some ⟨0x05, []⟩) (hidle : s.seq.station = .idle) :
    exec .clearStore s = .next { clearTables s with link := s.answering ⟨0x05, []⟩ .ok [] } := by
  have hok := answer_eq (s := clearTables s) (head_of_front hf) .ok []
  change execClearStore s = _
  rw [execClearStore, taking_of_front hf]
  change Host.Outcome.next (jobGate [.idle] (fun s => answer .ok [] (clearTables s)) s) = _
  rw [jobGate_idle hidle (List.mem_singleton_self _), hok]
  rfl

/-! ### The ranges -/

theorem setup_inBounds_iff (w : Setup) :
    w.inBounds = true ↔ 1 ≤ w.rapid ∧ w.rapid ≤ 200000 ∧ 1 ≤ w.dry ∧ w.dry ≤ 50000 ∧ 500 ≤ w.dropTime ∧
      w.dropTime ≤ 20000 ∧ w.xLow ≤ w.xHigh ∧ w.yLow ≤ w.yHigh := by
  simp [Setup.inBounds, and_assoc]

theorem condition_inBounds_iff (c : Condition) :
    c.inBounds = true ↔ 20 ≤ c.vref ∧ c.vref ≤ 200 ∧ 1 ≤ c.fmax ∧ c.fmax ≤ 4095 ∧ 1 ≤ c.lreq ∧ c.lreq ≤ 15 ∧
      1 ≤ c.freq ∧ c.freq ≤ 15 ∧ 1 ≤ c.rstep ∧ c.rstep ≤ 1023 ∧ 1 ≤ c.lr ∧ c.lr ≤ 2000 ∧
      2 ≤ c.offBase ∧ c.offBase ≤ 200 := by
  simp [Condition.inBounds, and_assoc]

theorem part_inBounds_iff (w : PartRecord) :
    w.inBounds = true ↔ 1 ≤ w.passCount ∧ w.passCount ≤ 3 ∧ 1 ≤ w.threadLimit ∧ w.threadLimit ≤ 7 ∧
      1 ≤ w.breakLimit ∧ w.breakLimit ≤ 15 := by
  simp [PartRecord.inBounds, and_assoc]

end Sys2Proof.Machine

open Sys2Proof Sys2Proof.Machine

/-- Settles O21: each load writes its record where its fields are in range, and a loaded flag is set as it is read. -/
theorem setupAndConditionsAreWrittenWhole : Obligations.SetupAndConditionsAreWrittenWhole := by
  constructor
  · intro s r hf hc hl hidle w
    rw [execSetup_idle hf hc hl hidle]
    exact ⟨fun h => by rw [if_pos ((setup_inBounds_iff _).2 h)],
      fun h => by rw [if_neg (mt (setup_inBounds_iff _).1 h)]⟩
  · intro s r hf hc hl hidle c k good
    rw [execLoadCondition_idle hf hc hl hidle]
    refine ⟨fun hk hgood => ⟨_, by rw [dif_pos hk, if_pos ((condition_inBounds_iff _).2 hgood)], rfl, fun i => ?_⟩,
      fun h => ?_⟩
    · change (s.conds.set k c hk)[i.val] = _
      rw [Vector.getElem_set]
      by_cases hi : i.val = k
      · rw [if_pos hi.symm, if_pos hi]; rfl
      · rw [if_neg (Ne.symm hi), if_neg hi]; rfl
    · rcases h with h | h
      · rw [dif_neg (Nat.not_lt.2 h)]
      · split
        · exact congrArg Host.Outcome.next (if_neg (mt (condition_inBounds_iff _).1 h))
        · rfl

/-- Settles O23: the record read has the device-owned fields of a cleared one (R19), and the three tables of CLEAR
STORE read as cleared at every index. -/
theorem loadPartAndClearStoreRewriteTables : Obligations.LoadPartAndClearStoreRewriteTables := by
  constructor
  · intro s r hf hc hl hidle w k good
    rw [execLoadPart_idle hf hc hl hidle]
    refine ⟨fun hk hgood => ?_, fun h => ?_⟩
    · have hself : (modPart ⟨k, hk⟩ (fun _ => w) s).part ⟨k, hk⟩ = w := modPart_part_self _ _ s
      refine ⟨_, by rw [dif_pos hk, if_pos ((part_inBounds_iff _).2 hgood)], rfl, fun q hq => ?_, fun q hq => ?_⟩
      · exact modPart_part_ne (p := ⟨k, hk⟩) (fun h => hq (congrArg Fin.val h)) (fun _ => w) s
      · obtain rfl : q = ⟨k, hk⟩ := Fin.ext hq
        change ((modPart ⟨k, hk⟩ (fun _ => w) s).part ⟨k, hk⟩).sameHostFields w ∧
          ((modPart ⟨k, hk⟩ (fun _ => w) s).part ⟨k, hk⟩).state = .uncut ∧ _
        rw [hself]
        exact ⟨w.follows_refl.1, rfl, congrArg PartRecord.cause hself, congrArg PartRecord.stage hself,
          congrArg PartRecord.pass hself, congrArg PartRecord.progress hself, congrArg PartRecord.tab hself,
          congrArg PartRecord.breakPoint hself, congrArg PartRecord.breakCount hself,
          congrArg PartRecord.erosion hself⟩
    · rcases h with h | h
      · rw [dif_neg (Nat.not_lt.2 h)]
      · split
        · exact congrArg Host.Outcome.next (if_neg (mt (part_inBounds_iff _).1 h))
        · rfl
  · intro s hf hidle
    refine ⟨_, execClearStore_idle hf hidle, rfl, fun i => ?_, fun i => ?_, fun q => ?_⟩
    · exact record_of_store_nil rfl i
    · change (Vector.replicate 16 Condition.cleared)[i.val] = _
      rw [Vector.getElem_replicate]
      rfl
    · change (Vector.replicate 32 PartRecord.cleared)[q.val] = _
      rw [Vector.getElem_replicate]
end

section
/-! Two samples of an input line (R134, R135), and the events that only set an expected level: O45. -/

namespace Sys2Proof.Machine

/-! ### One filter among the seven -/

theorem Filters.put_get (f : Filters) (i : Input) : f.put (f.get i) i = f := by cases i <;> rfl

theorem Filters.get_put (f : Filters) (v : Filter) (i : Input) : (f.put v i).get i = v := by cases i <;> rfl

theorem Filters.put_put (f : Filters) (v w : Filter) (i : Input) : (f.put v i).put w i = f.put w i := by
  cases i <;> rfl

/-! ### One filter's two samples -/

theorem sample2_same (f : Filter) (m : Level) : f.sample2 m m = Filter.steady m f.expected := by
  simp [Filter.sample2, Filter.sample, Filter.steady]

/-- A sample that differs is undone by one that agrees. -/
theorem sample2_returns {f : Filter} {l m : Level} (hm : m ≠ l) (hl : f.level = l) (hlast : f.last = some l) :
    f.sample2 m l = f := by
  obtain ⟨level, last, expected⟩ := f
  obtain rfl : level = l := hl
  obtain rfl : last = some level := hlast
  simp [Filter.sample2, Filter.sample, hm, Ne.symm hm]

theorem event_self (f : Filter) : Filter.event f f = none := if_neg fun h => h.1 rfl

/-- The filtered level comes to the level expected, or has it. -/
theorem event_none {f : Filter} {m : Level} (h : f.expected = m ∨ f.level = m) :
    Filter.event f (Filter.steady m f.expected) = none :=
  if_neg fun ⟨hl, he⟩ => h.elim (fun h => he h.symm) fun h => hl h.symm

theorem event_some {f : Filter} {m : Level} (he : f.expected ≠ m) (hl : f.level ≠ m) :
    Filter.event f (Filter.steady m f.expected) = some m := if_pos ⟨Ne.symm hl, Ne.symm he⟩

/-! ### The command -/

variable {s : State} {i : Input} {l m : Level}

theorem exec_samples (i : Input) (a b : Level) (s : State) :
    exec (i.samples a b) s = .next (sampleInput i a b s) := by cases i <;> rfl

/-- With no event the samples move the filter alone. -/
theorem sampleInput_quiet {a b : Level} (hd : s.seq.station ≠ .powerDown)
    (h : Filter.event (s.filters.get i) ((s.filters.get i).sample2 a b) = none) :
    sampleInput i a b s = { s with filters := s.withFilter i ((s.filters.get i).sample2 a b) } := by
  rw [sampleInput, if_neg hd]
  dsimp only
  rw [h]
  rfl

/-- An event that no owner watches for sets the expected level alone. -/
theorem sampleInput_unwatched (hd : s.seq.station ≠ .powerDown)
    (hw : (modFilter i (fun _ => Filter.steady m (s.filters.get i).expected) s).watches i m = false)
    (he : (s.filters.get i).expected ≠ m) (hl : (s.filters.get i).level ≠ m) :
    sampleInput i m m s = { s with filters := s.withFilter i (Filter.steady m m) } := by
  rw [sampleInput, if_neg hd]
  dsimp only
  rw [sample2_same, event_some he hl]
  refine (if_neg (by rw [hw]; exact Bool.false_ne_true)).trans ?_
  rw [followTo, modFilter, modFilter]
  simp only [State.modFilters, Filters.put_put, Filters.get_put]
  rfl

end Sys2Proof.Machine

open Sys2Proof Sys2Proof.Machine

/-- Settles O45, by what two samples make of one filter and whether that gives an event. -/
theorem inputsNeedTwoSamples : Obligations.InputsNeedTwoSamples := by
  refine ⟨fun f l => ⟨rfl, rfl, fun h => if_pos h, fun h => if_neg h⟩, fun i l m s hd hm hl hlast => ?_,
    fun i m s hd he => ?_, fun i m s hidle hi => ?_⟩
  · have hsame := sample2_returns hm hl hlast
    rw [exec_samples, sampleInput_quiet hd (by rw [hsame]; exact event_self _), hsame, State.withFilter,
      Filters.put_get]
  · rw [exec_samples, sampleInput_quiet hd (by rw [sample2_same]; exact event_none (.inl he)), sample2_same, he]
  · have hd : s.seq.station ≠ .powerDown := by rw [hidle]; decide
    rw [exec_samples]
    by_cases hl : (s.filters.get i).level = m
    · rw [sampleInput_quiet hd (by rw [sample2_same]; exact event_none (.inr hl)), sample2_same, if_pos hl]
    · rw [if_neg hl]
      by_cases he : (s.filters.get i).expected = m
      · rw [sampleInput_quiet hd (by rw [sample2_same]; exact event_none (.inl he)), sample2_same, he]
      · have hjob : s.inJob = false := by simp [State.inJob, hidle]
        rw [sampleInput_unwatched hd ?_ he hl]
        rcases hi with rfl | rfl | rfl
        · change (s.inJob && _) = false
          rw [hjob, Bool.false_and]
        · exact hjob
        · exact hjob
end

section
/-! Interruptions, ABORT (O27) and SKIP PART (O28, O29). -/

namespace Sys2Proof.Machine

variable {s u : State} {p : PartNo} {r : Request}

/-! ### The part being worked -/

theorem workingPart_of_current (hc : s.seq.current = some p) (hw : (s.part p).working = true) :
    s.workingPart = some p := by
  rw [State.workingPart, hc]
  exact if_pos hw

theorem interruptCurrent_working (c : Cause) (h : s.workingPart = some p) :
    interruptCurrent c s = interrupt c p s := by
  rw [interruptCurrent, h]

/-- A part made INTERRUPTED keeps its break point, or takes one from its progress by its stage (R37). -/
theorem interrupted_breakPoint (w : PartRecord) :
    (w.breakPoint.isSome → w.interrupted.breakPoint = w.breakPoint) ∧
    (w.breakPoint = none → w.interrupted.stage = .off → w.interrupted.breakPoint = w.progress) ∧
    (w.breakPoint = none → w.interrupted.stage = .cut →
      w.interrupted.breakPoint = w.progress.filter fun g => g.pass == .separation) ∧
    (w.breakPoint = none → w.interrupted.stage = .window → w.interrupted.breakPoint = none) := by
  simp only [PartRecord.interrupted]
  refine ⟨fun h => ?_, fun h hs => ?_, fun h hs => ?_, fun h hs => ?_⟩
  · obtain ⟨b, hb⟩ := Option.isSome_iff_exists.1 h
    rw [hb]
  all_goals rw [h, hs]
  rfl

/-! ### ABORT -/

/-- The effects of ABORT as the block shapes of R49. -/
theorem abortJob_eq (s : State) :
    abortJob s =
      { s.workStopped .abort with
        seq := s.seq.ended .idle, locks := [], filters := s.filters.wireFollowed.limitsFollowed } := by
  have hstop := stopWork_eq s
  obtain ⟨hn, hr⟩ := interruptCurrent_congr (s := s) (t := closeWindow (stopThreader (flush s))) .abort
    (by rw [hstop]) (by rw [hstop]) (by rw [hstop]) (by rw [hstop])
  rw [abortJob, enterIdle_eq, interruptCurrent_rest, hn, hr, hstop]
  rfl

/-- A job request without operands, taken in a state that takes it. -/
theorem execAbort_takes (hf : s.front = some ⟨0x09, []⟩) (hj : s.seq.station = .run ∨ s.seq.station = .held) :
    exec .abort s = .next (finish s { abortJob s with link := s.answering ⟨0x09, []⟩ .ok [] }) := by
  have hlink : (abortJob s).link = s.link := by rw [abortJob_eq]; rfl
  have hok := answer_eq (s := abortJob s) (by rw [hlink]; exact head_of_front hf) .ok []
  change execAbort s = _
  rw [execAbort, taking_of_front hf]
  change Host.Outcome.next (jobGate [.run, .held] (fun s => finish s (answer .ok [] (abortJob s))) s) = _
  rw [jobGate_takes (by rcases hj with h | h <;> simp [h]) (by rcases hj with h | h <;> simp [h]), hok,
    State.answering, hlink]
  rfl

/-! ### SKIP PART of a part that is not current (R38, R50) -/

theorem parse_skipPart (b : Byte) : (⟨0x0A, [b]⟩ : Request).parse = .skipPart b.toNat := rfl

theorem execSkipPart_takes {b : Byte} (hf : s.front = some ⟨0x0A, [b]⟩)
    (hst : s.seq.station = .idle ∨ s.seq.station = .run ∨ s.seq.station = .held) :
    exec .skipPart s = .next (
      if h : b.toNat < 32 then
        if s.seq.current = some ⟨b.toNat, h⟩ then skipCurrent s else skipOther ⟨b.toNat, h⟩ s
      else answer .refusedRange [] s) := by
  change execSkipPart s = _
  rw [execSkipPart, taking_of_front hf, parse_skipPart]
  dsimp only
  rw [jobGate_takes (by rcases hst with h | h | h <;> simp [h]) (by rcases hst with h | h | h <;> simp [h])]

/-- SKIP PART by the number of its part. -/
theorem execSkipPart_part {b : Byte} (hf : s.front = some ⟨0x0A, [b]⟩)
    (hst : s.seq.station = .idle ∨ s.seq.station = .run ∨ s.seq.station = .held) (hp : p.val = b.toNat) :
    exec .skipPart s = .next (if s.seq.current = some p then skipCurrent s else skipOther p s) := by
  have hlt : b.toNat < 32 := hp ▸ p.isLt
  obtain rfl : p = ⟨b.toNat, hlt⟩ := Fin.ext hp
  rw [execSkipPart_takes hf hst, dif_pos hlt]

/-- A code of a pass fits a byte, so the detail of a PART report is the word as it is made. -/
theorem partDetail_mod (st : PartState) (a : Option Pass) :
    (st.code + 256 * passCode a) % 2 ^ 32 = st.code + 256 * passCode a := by
  have hs : st.code ≤ 7 := by cases st <;> decide
  have ha : passCode a ≤ 4 := by
    cases a with
    | none => exact Nat.zero_le _
    | some a => cases a <;> decide
  exact Nat.mod_eq_of_lt (by omega)

/-- The state with a part's record replaced and its PART report queued with a cause (R22). -/
def State.reported (u : State) (p : PartNo) (cause : Option Cause) (w : PartRecord) : State :=
  { u with
    nest := u.nest.set p w
    reports := (queueReport .part (some p) cause (w.state.code + 256 * passCode w.pass) u).reports }

theorem reported_part_self (u : State) (p : PartNo) (c : Option Cause) (w : PartRecord) :
    (u.reported p c w).part p = w := modPart_part_self p (fun _ => w) u

theorem reported_part_ne {q : PartNo} (h : q ≠ p) (u : State) (c : Option Cause) (w : PartRecord) :
    (u.reported p c w).part q = u.part q := modPart_part_ne h (fun _ => w) u

/-- The PART report of a part's new record, where the queue has room. -/
theorem reported_reports (h : u.reports.items.length < 32) (p : PartNo) (c : Option Cause) (w : PartRecord) :
    (u.reported p c w).reports.items =
      u.reports.items ++ [⟨.part, some p, c, w.state.code + 256 * passCode w.pass, u.now % 2 ^ 32⟩] := by
  change (queueReport .part (some p) c _ u).reports.items = _
  rw [queueReport_room h, partDetail_mod]

theorem partReport_modPart (p : PartNo) (c : Option Cause) (f : PartRecord → PartRecord) (u : State) :
    partReport p c (modPart p f u) = u.reported p c (f (u.part p)) := by
  rw [partReport, modPart_part_self]
  rfl

/-- An outcome of a part that is not current (R22). -/
theorem finishPart_other (h : u.seq.current ≠ some p) (st : PartState) (c : Option Cause) :
    finishPart p st c u = u.reported p (outcomeCause st c) ((u.part p).final st c) := by
  rw [finishPart, partReport_modPart]
  exact if_neg h

/-- A station with no current part: its recovery record and a skip owed go with the part (R137, R147; log 23). -/
def Sequencer.partless (q : Sequencer) : Sequencer :=
  { q.noRecovery with current := none, passStart := none, skipOwed := false }

/-- An outcome of the current part (R22, R40). -/
theorem finishPart_current (h : u.seq.current = some p) (st : PartState) (c : Option Cause) :
    finishPart p st c u =
      { u.reported p (outcomeCause st c) ((u.part p).final st c) with seq := u.seq.partless } := by
  rw [finishPart, partReport_modPart]
  exact if_pos h

/-! ### The part records and reports that the end of an event leaves -/

theorem settles_part {b t : State} (h : State.settles b u t) (q : PartNo) : t.part q = u.part q := by
  obtain ⟨-, -, -, -, -, hnest, -⟩ := settles_rest h
  rw [State.part, State.part, hnest]

/-- A shape that names the part records and reports of the end. -/
theorem settles_free {b t : State} (h : State.settles b u t) :
    State.settles b { u with nest := t.nest, reports := t.reports } t := by
  obtain ⟨-, -, -, -, -, hnest, -⟩ := settles_rest h
  have hreports : t.reports = u.reports := by rw [h.1]
  rw [hnest, hreports]
  exact h

/-- A shape that names the part records of the end. -/
theorem settles_nest {b t : State} (h : State.settles b u t) : State.settles b { u with nest := t.nest } t := by
  obtain ⟨-, -, -, -, -, hnest, -⟩ := settles_rest h
  rw [hnest]
  exact h

/-- The end of an event that changed one part record, in the form the statements give it. -/
theorem ends_with_part {c : Instr} {p : PartNo} {w : PartRecord} (hx : exec c s = .next (finish s u)) (hu : u.calm)
    (hne : ∀ q, q ≠ p → u.part q = s.part q) (hself : u.part p = w) :
    ∃ t, exec c s = .next t ∧ State.settles s u t ∧
      State.settles s { u with nest := t.nest, reports := t.reports } t ∧
      (∀ q, q ≠ p → t.part q = s.part q) ∧ t.part p = w := by
  have hset := finish_settles u s hu
  exact ⟨_, hx, hset, settles_free hset, fun q hq => (settles_part hset q).trans (hne q hq),
    (settles_part hset p).trans hself⟩

/-! ### The skip of the current part, and the wire cut that follows an outcome (R38, R47, R51) -/

theorem flush_eq (u : State) :
    flush u = { u with queue := [], history := [], fetch := Fetcher.flushed, exe := u.exe.cleared } := rfl

theorem withdrawThread_off (h : u.thr.request = .off) : withdrawThread u = u :=
  if_neg (by rw [h]; decide)

/-- The wire cut in RUN, with nothing in hand and CUTTER_DONE clear. -/
theorem beginCut_run (hrun : u.seq.station = .run) (hthr : u.thr.request = .off)
    (hc : u.filters.cutterDone.level = .clear) :
    beginCut false u = { u with seq := { u.seq with activity := some .wireCutting }, thr := u.thr.severing
                                filters := u.filters.cutTip } := by
  rw [beginCut, if_neg (by rw [hrun]; decide), requestCut_off (by exact hthr) (by exact hc)]
  rfl

theorem beginCut_held (h : u.seq.station = .held) : beginCut false u = setOwed .wireCut u := if_pos h

/-- The Sequencer with the current part gone in RUN and its wire cut begun. -/
theorem partless_wireCutting {q : Sequencer} (h : q.station = .run) :
    { q.partless with activity := some .wireCutting } =
      { q.ended .run with activity := some .wireCutting, owed := q.owed, window := q.window } := by
  rw [← h]
  rfl

/-- The current part's outcome in RUN and the wire cut that follows it. -/
theorem finishAndCut_run (hcur : u.seq.current = some p) (hrun : u.seq.station = .run) (hthr : u.thr.request = .off)
    (hc : u.filters.cutterDone.level = .clear) (st : PartState) (c : Option Cause) :
    beginCut false (finishPart p st c u) =
      { u.reported p (outcomeCause st c) ((u.part p).final st c) with
        seq := { u.seq.ended .run with activity := some .wireCutting, owed := u.seq.owed, window := u.seq.window }
        thr := u.thr.severing, filters := u.filters.cutTip } := by
  rw [finishPart_current hcur, beginCut_run (by exact hrun) (by exact hthr) (by exact hc),
    ← partless_wireCutting hrun]
  rfl

/-- The skip of the current part acted in RUN with no thread in hand. -/
theorem actSkip_run (hcur : s.seq.current = some p) (hrun : s.seq.station = .run) (hthr : s.thr.request = .off)
    (hc : s.filters.cutterDone.level = .clear) :
    actSkip true s =
      { s.reported p (some .host) ((s.part p).final .skipped (some .host)) with
        queue := [], history := [], fetch := Fetcher.flushed, exe := s.exe.cleared
        seq := { s.seq.ended .run with activity := some .wireCutting, owed := s.seq.owed }
        thr := s.thr.severing, filters := s.filters.cutTip } := by
  rw [actSkip, hcur]
  dsimp only
  rw [if_pos rfl, withdrawThread_off (by exact hthr), flush_eq,
    finishAndCut_run (by exact hcur) (by exact hrun) (by exact hthr) (by exact hc)]
  rfl

theorem skipCurrent_owes (h : s.seq.activity ≠ some .dropWatch) (hb : s.link.buffer.head? = some r) :
    skipCurrent s = { s with seq := { s.seq with skipOwed := true }, link := s.answering r .ok [] } := by
  rw [skipCurrent, if_neg h, answer_eq (by exact hb)]
  rfl

/-- A part in a final state is not selected (R23). -/
theorem choosePart_ne_final (h : (s.part p).rank = none) : choosePart s ≠ some p := by
  have hfind : ∀ k, s.findRank k ≠ some p := fun k hk => by
    have ht := List.find?_some hk
    simp [h] at ht
  rw [choosePart_eq]
  intro hc
  simp only [Option.orElse_eq_orElse, Option.orElse_eq_or, Option.or_eq_some_iff] at hc
  rcases hc with h1 | ⟨-, h2 | ⟨-, h3 | ⟨-, h4⟩⟩⟩
  · exact hfind 1 h1
  · exact hfind 2 h2
  · exact hfind 3 h3
  · exact hfind 4 h4

end Sys2Proof.Machine

open Sys2Proof Sys2Proof.Machine

/-- Settles O27: the interruption by the record it writes, and ABORT by the stop of the work and the entry to IDLE. -/
theorem interruptionAndAbort : Obligations.InterruptionAndAbort := by
  constructor
  · intro s p c hc hw t
    have ht : t = interrupt c p s := interruptCurrent_working c (workingPart_of_current hc hw)
    have hpart : t.part p = (s.part p).interrupted := by rw [ht, interrupt_part, if_pos rfl]
    obtain ⟨hsome, hoff, hcut, hwindow⟩ := interrupted_breakPoint (s.part p)
    refine ⟨by rw [ht]; exact interrupt_rest c p s, fun q hq => by rw [ht, interrupt_part, if_neg hq], ?_⟩
    rw [hpart]
    refine ⟨(deviceWrite_interrupted _).1, rfl, rfl, rfl, rfl, rfl, rfl, rfl, rfl, hsome, hoff, hcut, hwindow,
      fun hroom => ?_⟩
    rw [ht, interrupt_reports c p hroom]
  · intro s hf hj hr
    have hset := finish_settles { abortJob s with link := s.answering ⟨0x09, []⟩ .ok [] } s
      (by rw [abortJob_eq]; exact ⟨hr, Phase.noConfusion⟩)
    refine ⟨_, execAbort_takes hf hj, by rw [abortJob_eq] at hset ⊢; exact hset, ?_⟩
    obtain ⟨hseq, -⟩ := settles_rest hset
    obtain ⟨-, hsettled, -⟩ := hset
    exact (settled_idle hsettled (by rw [hseq, abortJob_eq]; rfl)).1

/-- Settles O28: the part's number first, then its state. -/
theorem skipOfAnotherPartActsAtOnce : Obligations.SkipOfAnotherPartActsAtOnce := by
  intro s b hf hst
  have hb := head_of_front hf
  refine ⟨fun h => ?_, fun p hp hc => ?_⟩
  · rw [execSkipPart_takes hf hst, dif_neg (Nat.not_lt.2 h), answer_eq hb]
  · rw [execSkipPart_part hf hst hp, if_neg hc]
    refine ⟨fun h => ?_, fun h => ?_⟩
    · have hother : skipOther p s = answer .refusedState [] s := by
        rcases h with h | h | h <;> simp [skipOther, h]
      rw [hother, answer_eq hb]
    · have hother : skipOther p s = answer .ok [] (finishPart p .skipped (some .host) s) := by
        rcases h with h | h | h <;> simp [skipOther, h]
      have hself := reported_part_self s p (some .host) ((s.part p).final .skipped (some .host))
      rw [hother, finishPart_other hc, answer_eq (by exact hb)]
      refine ⟨_, rfl, rfl,
        fun q hq => reported_part_ne hq s (some .host) ((s.part p).final .skipped (some .host)), hself,
        fun hroom => reported_reports hroom p (some .host) _, choosePart_ne_final ?_⟩
      exact (congrArg PartRecord.rank hself).trans (rank_final (.inr (.inr rfl)))

/-- Settles O29: the skip owed, and in DROP_WATCH the skip acted, whose end is calm. -/
theorem skipOfTheCurrentPart : Obligations.SkipOfTheCurrentPart := by
  refine ⟨fun s b p hf hp hcur hst ha => ?_, fun s b p hf hp hcur hrun ha hr hthr hc => ?_⟩
  · rw [execSkipPart_part hf hst hp, if_pos hcur, skipCurrent_owes ha (head_of_front hf)]
  · have hact := actSkip_run hcur hrun hthr hc
    have hlink : (actSkip true s).link = s.link := by rw [hact]; rfl
    have hskip : skipCurrent s = finish s { actSkip true s with link := s.answering ⟨0x0A, [b]⟩ .ok [] } := by
      rw [skipCurrent, if_pos ha, answer_eq (by rw [hlink]; exact head_of_front hf), State.answering, hlink]
      rfl
    rw [hact] at hskip
    have hx : exec .skipPart s = .next (skipCurrent s) := by
      rw [execSkipPart_part hf (.inr (.inl hrun)) hp, if_pos hcur]
    rw [hskip] at hx
    obtain ⟨t, ht, -, hset, hparts⟩ := ends_with_part hx ⟨hr, severing_phase s.thr⟩
      (fun q hq => reported_part_ne hq s (some .host) _) (reported_part_self s p (some .host) _)
    exact ⟨t, ht, hset, hparts⟩
end

section
/-! Drops and the expiry of the drop window (R31 to R36): O47. -/

namespace Sys2Proof.Machine

variable {s u : State} {p : PartNo}

/-- DROP has come to asserted, and its expected level with it (R31). -/
def State.dropSeen (s : State) : State :=
  { s with filters := { s.filters with drop := Filter.steady .asserted .asserted } }

theorem dropInputChange_taken (hj : s.seq.station = .run ∨ s.seq.station = .held) (h : s.filters.drop.idleClear) :
    exec (.dropInputChange .asserted .asserted) s = .next (finish s (dropTaken s.dropSeen)) := by
  change Host.Outcome.next (sampleInput .drop .asserted .asserted s) = _
  rw [sampleInput_rise (i := .drop) (by rcases hj with hj | hj <;> simp [hj]) h]
  · rfl
  · change ((modFilter .drop (fun _ => Filter.risen) s).inJob && true) = true
    rw [Bool.and_true]
    exact inJob_of_job hj

/-- The consecutive-skip count may be cleared before the outcome of the current part. -/
theorem clearSkips_finishPart (h : u.seq.current = some p) (st : PartState) (c : Option Cause) :
    clearSkips (finishPart p st c u) = finishPart p st c (clearSkips u) := by
  rw [finishPart_current h, finishPart_current (by exact h)]
  rfl

/-- A wire cut in RUN that checks the tension of a THREADED wire first (R132). -/
theorem beginCut_checks (hrun : u.seq.station = .run) (hthr : u.thr.request = .off) (hw : u.thr.wire = .threaded) :
    beginCut true u =
      { u with seq := { u.seq with activity := some .wireCutting }
               thr := { u.thr with request := .cut, tensionCheck := true, timer := some 300 } } := by
  have hd : discardRequest (setActivity .wireCutting u) = setActivity .wireCutting u := if_pos hthr
  rw [beginCut, if_neg (by rw [hrun]; decide), requestCut, hd]
  exact if_pos ⟨rfl, hw⟩

theorem dropTaken_window (hcur : u.seq.current = some p) (hst : (u.part p).state = .separating)
    (hsg : (u.part p).stage = .window) : dropTaken u = dropInWindow p u := by
  rw [dropTaken, workingPart_of_current hcur (by simp [PartRecord.working, hst])]
  exact if_pos ⟨hst, hsg⟩

theorem dropTaken_early (hcur : u.seq.current = some p) (hst : (u.part p).state = .active) :
    dropTaken u = earlyDrop p u := by
  rw [dropTaken, workingPart_of_current hcur (by simp [PartRecord.working, hst])]
  exact if_neg fun h => by rw [hst] at h; exact PartState.noConfusion h.1

theorem dropTaken_unattributed (h : u.workingPart = none) : dropTaken u = unattributedDrop u := by
  rw [dropTaken, h]

/-- A drop in the open window in RUN. -/
theorem dropInWindow_run (hcur : u.seq.current = some p) (hrun : u.seq.station = .run) (hthr : u.thr.request = .off)
    (hc : u.filters.cutterDone.level = .clear) :
    dropInWindow p u =
      { u.reported p (some .normal) ((u.part p).final .released none) with
        seq := { u.seq.ended .run with activity := some .wireCutting, owed := u.seq.owed, skipCount := 0 }
        thr := u.thr.severing, filters := u.filters.cutTip } := by
  rw [dropInWindow, clearSkips_finishPart (by exact hcur),
    finishAndCut_run (by exact hcur) (by exact hrun) (by exact hthr) (by exact hc)]
  rfl

/-- EARLY_DROP on a THREADED wire in RUN. -/
theorem earlyDrop_run (hcur : u.seq.current = some p) (hrun : u.seq.station = .run) (hthr : u.thr.request = .off)
    (hw : u.thr.wire = .threaded) :
    earlyDrop p u =
      { u.reported p (some .early) ((u.part p).final .released (some .early)) with
        queue := [], history := [], fetch := Fetcher.flushed, exe := u.exe.cleared
        seq := { u.seq.ended .run with activity := some .wireCutting, owed := u.seq.owed, skipCount := 0
                                       window := u.seq.window }
        thr := { u.thr with request := .cut, tensionCheck := true, timer := some 300 } } := by
  rw [earlyDrop, flush_eq, clearSkips_finishPart (by exact hcur), finishPart_current (by exact hcur),
    beginCut_checks (by exact hrun) (by exact hthr) (by exact hw), ← hrun]
  rfl

/-! ### The expiry of the window -/

theorem execDropWindowExpiry_open (hcur : s.seq.current = some p) (hw : s.seq.window.isSome)
    (hst : (s.part p).state = .separating) (hsg : (s.part p).stage = .window) :
    exec .dropWindowExpiry s = .next (finish s (windowExpired p s)) := by
  have hpart : s.windowPart = some p := by
    rw [State.windowPart, if_pos hw, workingPart_of_current hcur (by simp [PartRecord.working, hst])]
    exact if_pos (by simp [hst, hsg])
  change execDropWindowExpiry s = _
  rw [execDropWindowExpiry, hpart]

/-- The counts after the expiry: one unattributed drop is taken off, and with one credited the skips in a row are
cleared (R33, R39). -/
def Sequencer.windowClosed (q : Sequencer) : Sequencer :=
  { q with window := none, dropCount := q.dropCount - 1, skipCount := if 0 < q.dropCount then 0 else q.skipCount }

/-- The cause of the outcome: presumed with a drop credited, no drop with none (R33). -/
def State.windowCause (s : State) : Cause := if 0 < s.seq.dropCount then .presumed else .noDrop

/-- The record of a part whose window has expired. -/
def State.windowOutcome (s : State) (p : PartNo) : PartRecord :=
  (s.part p).final (if 0 < s.seq.dropCount then .released else .hung) (some s.windowCause)

theorem outcomeCause_some (st : PartState) (c : Cause) : outcomeCause st (some c) = some c := ite_self _

/-- The outcome of an expired window: presumed released with a drop credited, hung with none (R33). -/
theorem windowExpired_eq (hcur : s.seq.current = some p) :
    windowExpired p s =
      beginCut false (finishPart p (if 0 < s.seq.dropCount then .released else .hung)
        (some s.windowCause) { s with seq := s.seq.windowClosed }) := by
  rw [windowExpired, State.windowCause]
  by_cases h : 0 < s.seq.dropCount
  · refine (if_pos h).trans ?_
    dsimp only
    rw [clearSkips_finishPart (by exact hcur), if_pos h, if_pos h, Sequencer.windowClosed, if_pos h]
    rfl
  · have hz : s.seq.dropCount = s.seq.dropCount - 1 := by omega
    refine (if_neg h).trans ?_
    rw [if_neg h, if_neg h, Sequencer.windowClosed, if_neg h, ← hz]
    rfl

/-- The expiry in RUN, where the wire cut begins. -/
theorem windowExpired_run (hcur : s.seq.current = some p) (hrun : s.seq.station = .run) (hthr : s.thr.request = .off)
    (hc : s.filters.cutterDone.level = .clear) :
    windowExpired p s =
      { s.reported p (some s.windowCause) (s.windowOutcome p) with
        seq := { s.seq.windowClosed.ended s.seq.station with activity := some .wireCutting, owed := s.seq.owed }
        thr := s.thr.severing, filters := s.filters.cutTip } := by
  rw [windowExpired_eq hcur, finishAndCut_run (by exact hcur) (by exact hrun) (by exact hthr) (by exact hc),
    outcomeCause_some, ← hrun]
  rfl

/-- The expiry in HELD, where the wire cut is owed (R47). -/
theorem windowExpired_held (hcur : s.seq.current = some p) (hheld : s.seq.station = .held) :
    windowExpired p s =
      { s.reported p (some s.windowCause) (s.windowOutcome p) with
        seq := { s.seq.windowClosed.ended s.seq.station with activity := s.seq.activity, owed := some .wireCut } } := by
  rw [windowExpired_eq hcur, finishPart_current (by exact hcur), beginCut_held (by exact hheld), outcomeCause_some]
  rfl

end Sys2Proof.Machine

open Sys2Proof Sys2Proof.Machine

/-- Settles O47: the drop and the expiry by what the part being worked makes of them. -/
theorem dropsAndWindowExpiryDecideTheOutcome : Obligations.DropsAndWindowExpiryDecideTheOutcome := by
  refine ⟨fun s hrun hcalm hdrop hc hthr => ⟨fun p hcur hst hsg => ?_, fun hnone => ?_, fun p hcur hst hw => ?_⟩, ?_⟩
  · have hx := dropInputChange_taken (.inl hrun) hdrop
    rw [dropTaken_window (u := s.dropSeen) hcur hst hsg,
      dropInWindow_run (u := s.dropSeen) hcur hrun hthr (by exact hc)] at hx
    obtain ⟨t, ht, hset, hfree, hne, hself⟩ := ends_with_part hx ⟨hcalm.1, severing_phase s.thr⟩
      (fun q hq => reported_part_ne hq s.dropSeen (some .normal) _)
      (reported_part_self s.dropSeen p (some .normal) _)
    refine ⟨t, ht, hfree, hne, hself, fun hroom => ?_⟩
    have hreports : t.reports = (s.dropSeen.reported p (some .normal) ((s.part p).final .released none)).reports := by
      rw [hset.1]; rfl
    rw [hreports]
    exact reported_reports (u := s.dropSeen) hroom p _ _
  · have hx := dropInputChange_taken (.inl hrun) hdrop
    rw [dropTaken_unattributed (u := s.dropSeen) hnone] at hx
    exact ⟨_, hx, finish_settles (unattributedDrop s.dropSeen) s hcalm⟩
  · have hx := dropInputChange_taken (.inl hrun) hdrop
    rw [dropTaken_early (u := s.dropSeen) hcur hst, earlyDrop_run (u := s.dropSeen) hcur hrun hthr hw] at hx
    obtain ⟨t, ht, hset, hfree, hne, hself⟩ := ends_with_part hx hcalm
      (fun q hq => reported_part_ne hq s.dropSeen (some .early) _)
      (reported_part_self s.dropSeen p (some .early) _)
    refine ⟨t, ht, hfree, hne, hself, ?_⟩
    obtain ⟨hseq, -⟩ := settles_rest hset
    exact (settled_idle hset.2.1 (by rw [hseq]; rfl)).1
  · intro s p hst hcalm hcur hw hstate hstage hc hthr credited
    have hx := execDropWindowExpiry_open hcur hw hstate hstage
    rcases hst with hrun | hheld
    · rw [windowExpired_run hcur hrun hthr hc] at hx
      obtain ⟨t, ht, -, hfree, hne, hself⟩ := ends_with_part hx ⟨hcalm.1, severing_phase s.thr⟩
        (fun q hq => reported_part_ne hq s (some s.windowCause) (s.windowOutcome p))
        (reported_part_self s p (some s.windowCause) (s.windowOutcome p))
      refine ⟨t, ht, ?_, hne, hself⟩
      have hnot : ¬s.seq.station = .held := by rw [hrun]; decide
      rw [if_neg hnot, if_neg hnot, if_neg hnot, if_neg hnot]
      exact hfree
    · rw [windowExpired_held hcur hheld] at hx
      obtain ⟨t, ht, -, hfree, hne, hself⟩ := ends_with_part hx hcalm
        (fun q hq => reported_part_ne hq s (some s.windowCause) (s.windowOutcome p))
        (reported_part_self s p (some s.windowCause) (s.windowOutcome p))
      refine ⟨t, ht, ?_, hne, hself⟩
      rw [if_pos hheld, if_pos hheld, if_pos hheld, if_pos hheld]
      exact hfree
end

section
/-! CONTACT in FEED and TENSION_OK in TENSION, and the passes that a thread's end starts (R126, R127): O51. -/

namespace Sys2Proof.Machine

variable {s u : State} {p : PartNo}

theorem atBoundary_next (h : u.seq.skipOwed = false) (next : State → State) : atBoundary next u = next u :=
  if_neg (by rw [h]; exact Bool.false_ne_true)

/-! ### The start of a pass (R65, R96) -/

/-- The Fetcher at the start of a pass (R65). -/
def Fetcher.atStart (p : PartNo) (pass : Pass) (i : PathIndex) (start : Point) (c : CondNo)
    (target : Option PathPoint) : Fetcher :=
  ⟨.running, some p, some pass, some i, [], ⟨0, 0⟩, some start, some c, target, 0⟩

/-- The Sequencer at the start of a pass: the start point of passes 1-3 is recorded (R137). -/
def Sequencer.atStart (q : Sequencer) (pass : Pass) (start : Point) : Sequencer :=
  if pass = .separation then q else { q with passStart := some start }

theorem startPass_eq (p : PartNo) (pass : Pass) (i : PathIndex) (start : Point) (c : CondNo)
    (target seek : Option PathPoint) (u : State) :
    startPass p pass i start c target seek u =
      { modPart p (fun r => { r with pass := some pass }) u with
        queue := [], history := [], fetch := Fetcher.atStart p pass i start c (carriedTarget pass target)
        exe := u.exe.atStart pass seek, seq := u.seq.atStart pass start } := by
  rw [startPass, Sequencer.atStart]
  dsimp only
  split <;> rfl

/-- A contour and an initial condition in their ranges are taken as they stand. -/
theorem startContour_eq {pass : Pass} {i : PathIndex} {c : CondNo} (hi : (u.part p).contour.get pass = some i.val)
    (hc : (u.part p).initial.get pass = some c.val) (start : Point) (target seek : Option PathPoint) :
    startContour p pass start target seek u = startPass p pass i start c target seek u := by
  have hi' : Fin.ofNat 4096 i.val = i := Fin.ext (Nat.mod_eq_of_lt i.isLt)
  have hc' : Fin.ofNat 16 c.val = c := Fin.ext (Nat.mod_eq_of_lt c.isLt)
  rw [startContour, hi, hc, Option.getD_some, Option.getD_some, hi', hc']

theorem startSeparation_eq {at_ : TabPoint} (h : (u.part p).tab = some at_) (target : Option PathPoint) :
    startSeparation p target u = startPass p .separation at_.record at_.at_ at_.cond target none u := by
  rw [startSeparation, h]

/-- A dry target of this pass or a later one is carried into it. -/
theorem carriedTarget_some {pass : Pass} {b : PathPoint} (h : pass.code ≤ b.pass.code) :
    carriedTarget pass (some b) = some b := by
  simp [carriedTarget, h]

theorem carriedTarget_first (target : Option PathPoint) : carriedTarget .first target = target := by
  cases target with
  | none => rfl
  | some b => exact carriedTarget_some (by cases b.pass <;> decide)

/-! ### CONTACT (R126) -/

theorem releaseJet_eq (u : State) : releaseJet u = { u with coord := u.coord.released } := rfl

theorem follow_eq (i : Input) (u : State) :
    follow i u = { u with filters := u.filters.put (u.filters.get i).followed i } := rfl

/-- Entry to TENSION with TENSION_OK clear. -/
theorem enterTension_eq (h : u.filters.tensionOk.level = .clear) :
    enterTension u =
      { u with thr := { u.thr with tension := true, phase := .tension, timer := some 3000 }
               filters := { u.filters with tensionOk := { u.filters.tensionOk with expected := .clear } } } := by
  rw [enterTension, expect_of_level (i := .tensionOk) (by exact h)]
  rfl

theorem contactTaken_eq (hs : s.seq.skipOwed = false) (ht : s.filters.tensionOk.level = .clear) :
    contactTaken (modFilter .contact (fun _ => Filter.risen) s) =
      { s with
        thr := { s.thr with valve := false, feed := false, tension := true, phase := .tension, timer := some 3000 }
        coord := s.coord.released
        filters := { s.filters with contact := Filter.steady .asserted .asserted
                                    tensionOk := { s.filters.tensionOk with expected := .clear } } } := by
  rw [contactTaken, atBoundary_next (by exact hs), releaseJet_eq, follow_eq, enterTension_eq (by exact ht)]
  rfl

theorem contact_taken (hd : s.seq.station ≠ .powerDown) (hf : s.thr.phase = .feed)
    (h : s.filters.contact.idleClear) :
    exec (.contact .asserted .asserted) s =
      .next (finish s (contactTaken (modFilter .contact (fun _ => Filter.risen) s))) :=
  congrArg Host.Outcome.next (sampleInput_rise (i := .contact) hd h (by simp [State.watches, hf]))

/-! ### TENSION_OK (R127) -/

/-- The thread complete: the wire THREADED and its break watch begun. -/
def State.threadDone (s : State) : State :=
  { s with thr := s.thr.threaded, filters := { s.filters with tensionOk := Filter.steady .asserted .asserted } }

theorem enterDone_eq (s : State) :
    enterDone (modFilter .tensionOk (fun _ => Filter.risen) s) = threadCompleted s.threadDone := by
  rw [enterDone, expect_of_level (i := .tensionOk) (by rfl)]
  rfl

theorem tensionOk_taken (hd : s.seq.station ≠ .powerDown) (hp : s.thr.phase = .tension)
    (h : s.filters.tensionOk.idleClear) :
    exec (.tensionOkChange .asserted .asserted) s = .next (finish s (threadCompleted s.threadDone)) := by
  rw [← enterDone_eq]
  exact congrArg Host.Outcome.next ((sampleInput_rise (i := .tensionOk) hd h (by simp [State.watches, hp])).trans
    (congrArg (finish s) (if_neg fun h => Level.noConfusion h.2)))

/-! ### What the end of a thread starts (R25, R29, R141, R142, R145) -/

section
variable (hs : u.seq.skipOwed = false) (hcur : u.seq.current = some p)
include hs hcur

/-- The first thread of an UNCUT part. -/
theorem threadCompleted_uncut (ha : u.seq.activity = some .threading) (hst : (u.part p).state = .uncut) :
    threadCompleted u = startContour p .first (u.part p).startHole none none (setActivity .cutting
      (u.takenUp p { u.part p with state := .active, pass := some .first, progress := some ⟨.first, 0, 0⟩ })) := by
  rw [threadCompleted, atBoundary_next hs, ← takeUp_eq p fun r =>
    { r with state := .active, pass := some .first, progress := some ⟨.first, 0, 0⟩ }]
  simp only [hcur, ha, hst]

/-- The thread of a SEPARATING part at its tab point. -/
theorem threadCompleted_separating (ha : u.seq.activity = some .threading) (hst : (u.part p).state = .separating) :
    threadCompleted u = startSeparation p none (setActivity .separating
      (modPart p (fun r => { r with progress := some ⟨.separation, 0, 0⟩ }) u)) := by
  rw [threadCompleted, atBoundary_next hs]
  simp only [hcur, ha, hst]

/-- The thread of a recovery, by its route. -/
theorem threadCompleted_hole (ha : u.seq.activity = some .recovering) (hr : u.seq.route = .hole) :
    threadCompleted u =
      startContour p .first (u.part p).startHole (u.part p).breakPoint none (setStep .replay u) := by
  rw [threadCompleted, atBoundary_next hs]
  simp only [hcur, ha, hr]

theorem threadCompleted_tab (ha : u.seq.activity = some .recovering) (hr : u.seq.route = .tab) :
    threadCompleted u = startSeparation p (u.part p).breakPoint (setStep .replay u) := by
  rw [threadCompleted, atBoundary_next hs]
  simp only [hcur, ha, hr]

theorem threadCompleted_slot (ha : u.seq.activity = some .recovering) (hr : u.seq.route = .slot) {pass : Pass}
    {start : Point} {back : Rethread} (hpass : (u.part p).pass = some pass) (hstart : u.seq.passStart = some start)
    (hback : u.seq.rethread = some back) :
    threadCompleted u =
      startContour p pass start (u.part p).breakPoint (some back.point) (setStep .seek u) := by
  rw [threadCompleted, atBoundary_next hs]
  simp only [hcur, ha, hr, hpass, hstart, hback]

end

/-- A pass started by TENSION_OK, with the Sequencer, the reports and the part's record that its case writes. -/
theorem tensionOk_starts {seq : Sequencer} {pass : Pass} {i : PathIndex} {start : Point} {c : CondNo}
    {target seek : Option PathPoint} {reports : ReportQueue} {r : PartRecord} {v : State}
    (hd : s.seq.station ≠ .powerDown) (hr : s.raised = []) (hp : s.thr.phase = .tension)
    (h : s.filters.tensionOk.idleClear)
    (hstart : threadCompleted s.threadDone = startPass p pass i start c target seek v)
    (hv : v = { s.threadDone with seq := v.seq, reports := reports, nest := v.nest })
    (hseq : v.seq.atStart pass start = seq) (hne : ∀ q, q ≠ p → v.part q = s.part q)
    (hself : { v.part p with pass := some pass } = r) :
    ∃ t, exec (.tensionOkChange .asserted .asserted) s = .next t ∧
      State.settles s
        { s with
          nest := t.nest, reports := reports, queue := [], history := [], thr := s.thr.threaded, seq := seq
          filters := { s.filters with tensionOk := Filter.steady .asserted .asserted }
          fetch := Fetcher.atStart p pass i start c (carriedTarget pass target)
          exe := s.exe.atStart pass seek } t ∧
      (∀ q, q ≠ p → t.part q = s.part q) ∧ t.part p = r := by
  have hx := tensionOk_taken hd hp h
  rw [hstart, startPass_eq, hseq] at hx
  obtain ⟨t, ht, hset, -, hparts⟩ := ends_with_part hx (by rw [hv]; exact ⟨hr, Phase.noConfusion⟩)
    (fun q hq => (modPart_part_ne hq (fun w => { w with pass := some pass }) v).trans (hne q hq))
    ((modPart_part_self p (fun w => { w with pass := some pass }) v).trans hself)
  refine ⟨t, ht, ?_, hparts⟩
  rw [hv] at hset
  exact settles_nest hset

end Sys2Proof.Machine

open Sys2Proof Sys2Proof.Machine

/-- Settles O51: the watch that each input meets, and the pass that each end of a thread starts. -/
theorem contactAndTensionCompleteTheThread : Obligations.ContactAndTensionCompleteTheThread := by
  constructor
  · intro s hd hr hs hf h ht
    have hx := contact_taken hd hf h
    rw [contactTaken_eq hs ht] at hx
    exact ⟨_, hx, finish_settles _ s ⟨hr, Phase.noConfusion⟩⟩
  · intro s p hrun hr hs hp hw h hcur starts w
    have hd : s.seq.station ≠ .powerDown := by rw [hrun]; decide
    refine ⟨fun i c hi hc => ⟨fun ha hst => ?_, fun ha hroute => ?_⟩,
      fun at_ ht => ⟨fun ha hst => ?_, fun b ha hroute hb hpass => ?_⟩,
      fun pass start back b i c ha hroute hne hpass hstart hback hb hle hi hc => ?_⟩
    · have hself := takenUp_part_self s.threadDone p
        { w with state := .active, pass := some .first, progress := some ⟨.first, 0, 0⟩ }
      exact tensionOk_starts hd hr hp h ((threadCompleted_uncut (u := s.threadDone) hs hcur ha hst).trans
        (startContour_eq (i := i) (c := c) ((congrArg (fun w => w.contour.get .first) hself).trans hi)
          ((congrArg (fun w => w.initial.get .first) hself).trans hc) _ _ _)) rfl rfl
        (fun q hq => takenUp_part_ne hq s.threadDone _)
        (congrArg (fun w : PartRecord => { w with pass := some .first }) hself)
    · have hstarts := tensionOk_starts hd hr hp h
        ((threadCompleted_hole (u := s.threadDone) hs hcur ha hroute).trans
          (startContour_eq (i := i) (c := c) (by exact hi) (by exact hc) _ _ _)) rfl rfl (fun _ _ => rfl) rfl
      rw [carriedTarget_first] at hstarts
      exact hstarts
    · have hself := modPart_part_self p (fun r => { r with progress := some ⟨.separation, 0, 0⟩ }) s.threadDone
      exact tensionOk_starts hd hr hp h ((threadCompleted_separating (u := s.threadDone) hs hcur ha hst).trans
        (startSeparation_eq (by exact (congrArg PartRecord.tab hself).trans ht) none)) rfl rfl
        (fun q hq => modPart_part_ne hq (fun r => { r with progress := some ⟨.separation, 0, 0⟩ }) s.threadDone)
        (congrArg (fun w : PartRecord => { w with pass := some .separation }) hself)
    · have hstarts := tensionOk_starts hd hr hp h
        ((threadCompleted_tab (u := s.threadDone) hs hcur ha hroute).trans
          (startSeparation_eq (by exact ht) _)) rfl rfl (fun _ _ => rfl) rfl
      have hcarried : carriedTarget .separation (s.threadDone.part p).breakPoint = some b :=
        (congrArg _ hb).trans (carriedTarget_some (by rw [hpass]))
      rw [hcarried] at hstarts
      exact hstarts
    · have hseq : (setStep .seek s.threadDone).seq.atStart pass start = { s.seq with step := some .seek } := by
        rw [Sequencer.atStart, if_neg hne, ← hstart]; rfl
      have hself : { s.part p with pass := some pass } = s.part p := by rw [← hpass]
      have hstarts := tensionOk_starts hd hr hp h
        ((threadCompleted_slot (u := s.threadDone) hs hcur ha hroute hpass hstart hback).trans
          (startContour_eq (i := i) (c := c) (by exact hi) (by exact hc) _ _ _)) rfl hseq (fun _ _ => rfl) hself
      have hcarried : carriedTarget pass (s.threadDone.part p).breakPoint = some b :=
        (congrArg _ hb).trans (carriedTarget_some hle)
      rw [hcarried] at hstarts
      exact hstarts
end

section
/-! Failed thread attempts: the next attempt, the skip at the attempt limit and the third skip in a row (R128): O50. -/

namespace Sys2Proof.Machine

variable {s u : State} {p : PartNo} {f : ThreadFailure}

/-! ### A failed attempt (R128) -/

theorem followWireInputs_eq (u : State) : followWireInputs u = { u with filters := u.filters.wireFollowed } := rfl

/-- Entry to CUT_TIP with CUTTER_DONE clear (R122). -/
theorem enterCutTip_eq (h : u.filters.cutterDone.level = .clear) :
    enterCutTip u = { u with thr := u.thr.cutting, filters := u.filters.cutTip } := by
  rw [enterCutTip, expect_of_level (i := .cutterDone) (by exact h)]
  rfl

/-- Threader Control with its outputs released, its timers stopped and the attempt counted. -/
def Threader.attemptLost (t : Threader) : Threader :=
  { t with cutter := false, anneal := false, valve := false, feed := false, timer := none, sagBlank := none
           attempts := t.attempts + 1 }

/-- An attempt failed: counted, reported, the jet released. -/
def State.attemptLost (f : ThreadFailure) (u : State) : State :=
  { u with
    thr := u.thr.attemptLost, coord := u.coord.released, filters := u.filters.wireFollowed
    reports := (queueReport .threadFail u.seq.current (some f.cause)
      ((u.thr.mode.map Mode.code).getD 0 + 256 * (u.thr.attempts + 1)) u).reports }

theorem attemptFailed_eq (f : ThreadFailure) (hs : u.seq.skipOwed = false) :
    attemptFailed f u =
      if u.thr.limit.getD 0 ≤ u.thr.attempts + 1 then
        threadLimitReached ((u.attemptLost f).modThr fun t => { t with phase := .idle, request := .off })
      else enterCutTip (u.attemptLost f) := by
  rw [attemptFailed, endAttempt, releaseJet_eq, followWireInputs_eq]
  exact atBoundary_next (by exact hs) _

theorem attemptFailed_retries (hs : u.seq.skipOwed = false) (hc : u.filters.cutterDone.level = .clear)
    (h : u.thr.attempts + 1 < u.thr.limit.getD 0) : attemptFailed f u = u.afterRetry f := by
  rw [attemptFailed_eq f hs, if_neg (Nat.not_le.2 h), enterCutTip_eq (by exact hc)]
  rfl

/-! ### The last attempt of a part's first thread (R38, R39) -/

/-- The part skipped at its attempt limit, with the skips in a row counted, before a cut or a halt. -/
def State.threadSkipped (f : ThreadFailure) (p : PartNo) (u : State) : State :=
  (finishPart p .skipped (some .threadLimit)
    (flush ((u.attemptLost f).modThr fun t => { t with phase := .idle, request := .off }))).modSeq fun q =>
      { q with skipCount := min (q.skipCount + 1) 3 }

theorem attemptFailed_last (hs : u.seq.skipOwed = false) (hcur : u.seq.current = some p)
    (hst : (u.part p).state = .uncut) (ha : u.seq.activity = some .threading)
    (h : u.thr.limit.getD 0 ≤ u.thr.attempts + 1) :
    attemptFailed f u =
      if 3 ≤ (u.threadSkipped f p).seq.skipCount then haltStation .skipRun (u.threadSkipped f p)
      else beginCut false (u.threadSkipped f p) := by
  have hst' : ¬(u.part p).state = .separating := by rw [hst]; exact PartState.noConfusion
  rw [attemptFailed_eq f hs, if_pos h]
  generalize hv : (u.attemptLost f).modThr (fun t => { t with phase := .idle, request := .off }) = v
  have hskip : threadLimitReached v = skipThreadLimit p v := by
    rw [threadLimitReached]
    have h1 : v.seq.current = some p := by rw [← hv]; exact hcur
    have h2 : v.seq.activity = some .threading := by rw [← hv]; exact ha
    have h3 : ¬(v.part p).state = .separating := by rw [← hv]; exact hst'
    simp only [h1, h2, if_neg h3]
  rw [hskip, ← hv]
  rfl

theorem threadSkipped_eq (hcur : u.seq.current = some p) :
    u.threadSkipped f p =
      { ({ u.attemptLost f with
            queue := [], history := [], fetch := Fetcher.flushed, exe := u.exe.cleared } : State).reported p
          (some .threadLimit) ((u.part p).final .skipped (some .threadLimit)) with
        seq := { u.seq.partless with skipCount := min (u.seq.skipCount + 1) 3 }
        thr := { u.thr.attemptLost with phase := .idle, request := .off } } := by
  rw [State.threadSkipped, flush_eq, finishPart_current (by exact hcur)]
  rfl

theorem threadSkipped_part (hcur : u.seq.current = some p) :
    (u.threadSkipped f p).part p = (u.part p).final .skipped (some .threadLimit) := by
  rw [threadSkipped_eq hcur]
  exact reported_part_self (u.attemptLost f) p (some .threadLimit) _

theorem threadSkipped_rest (hcur : u.seq.current = some p) :
    (u.threadSkipped f p).workingPart = none ∧ (u.threadSkipped f p).raised = u.raised ∧
      (u.threadSkipped f p).walking = u.walking ∧
      (u.threadSkipped f p).seq.skipCount = min (u.seq.skipCount + 1) 3 := by
  rw [threadSkipped_eq hcur]
  exact ⟨rfl, rfl, rfl, rfl⟩

theorem attemptFailed_skips (hs : u.seq.skipOwed = false) (hc : u.filters.cutterDone.level = .clear)
    (hrun : u.seq.station = .run) (hcur : u.seq.current = some p)
    (hst : (u.part p).state = .uncut) (ha : u.seq.activity = some .threading)
    (h : u.thr.limit.getD 0 ≤ u.thr.attempts + 1) (hk : u.seq.skipCount < 2) :
    attemptFailed f u = u.afterLastAttempt f p := by
  have hmin : min (u.seq.skipCount + 1) 3 = u.seq.skipCount + 1 := by omega
  have hcount : ¬3 ≤ (u.threadSkipped f p).seq.skipCount := by
    rw [threadSkipped_eq hcur]
    dsimp only
    omega
  rw [attemptFailed_last hs hcur hst ha h, if_neg hcount, threadSkipped_eq hcur,
    beginCut_run (by exact hrun) (by rfl) (by exact hc), State.afterLastAttempt, finishPart_current (by exact hcur),
    hmin, ← hrun]
  rfl

/-! ### The third skip in a row (R39) -/

theorem released_jet (c : Coordination) : c.released.jet = .off := by
  unfold Coordination.released; split
  · assumption
  · rfl

/-- A halt with no walk in progress leaves the station at rest (R58). -/
theorem haltedAtRest_of_settles {b t : State} {code : HaltCode} (h : State.settles b (u.afterHalt code) t)
    (hw : u.walking = false) : t.haltedAtRest ∧ t.seq.halt = some code := by
  obtain ⟨hseq, hthr, hexe, -, hwalk, -, hjet⟩ := settles_rest h
  rw [State.haltedAtRest, hseq, hthr, hexe, hwalk, hjet]
  exact ⟨⟨rfl, rfl, rfl, hw, rfl, .inl rfl, rfl, rfl, released_jet _⟩, rfl⟩

/-- A halt with no part at work writes no part record. -/
theorem afterHalt_part {code : HaltCode} (h : u.workingPart = none) (q : PartNo) :
    (u.afterHalt code).part q = u.part q := by
  have hn : interruptCurrent .halt u = u := by rw [interruptCurrent, h]
  change (interruptCurrent .halt u).part q = _
  rw [hn]

theorem attemptFailed_halts (hs : u.seq.skipOwed = false) (hcur : u.seq.current = some p)
    (hst : (u.part p).state = .uncut) (ha : u.seq.activity = some .threading) (hw : u.walking = false)
    (h : u.thr.limit.getD 0 ≤ u.thr.attempts + 1) (hk : 2 ≤ u.seq.skipCount) :
    attemptFailed f u = (u.threadSkipped f p).afterHalt .skipRun := by
  have hcount : 3 ≤ (u.threadSkipped f p).seq.skipCount := by
    rw [threadSkipped_eq hcur]
    dsimp only
    omega
  rw [attemptFailed_last hs hcur hst ha h, if_pos hcount,
    haltStation_eq (by decide) (by rw [threadSkipped_eq hcur]; exact hw)]

/-! ### The four causes (R124 to R127) -/

/-- The command `c` finds a failed attempt of cause `f`, in the state `u` that its samples leave. -/
def FailsAttempt (s u : State) (c : Instr) (f : ThreadFailure) : Prop :=
  (s.thr.phase = .anneal ∧ s.thr.sagBlank = none ∧ s.filters.supplySag.idleClear ∧
      c = .supplySag .asserted .asserted ∧ f = .annealSag ∧
      u = { s with filters := { s.filters with supplySag := Filter.steady .asserted .clear } }) ∨
    (s.thr.phase = .jetClaim ∧ s.thr.timer.isSome = true ∧ c = .jetWaitLimitExpiry ∧ f = .jetWait ∧ u = s) ∨
    (s.thr.phase = .feed ∧ s.thr.timer.isSome = true ∧ c = .feedTimeout ∧ f = .noContact ∧ u = s) ∨
    (s.thr.phase = .tension ∧ s.thr.timer.isSome = true ∧ c = .tensionTimeout ∧ f = .noTension ∧ u = s)

/-- Whichever the cause, the attempt fails in a state that has the filters alone of its own. -/
theorem FailsAttempt.exec_eq {c : Instr} (h : FailsAttempt s u c f) (hd : s.seq.station ≠ .powerDown) :
    exec c s = .next (finish s (attemptFailed f u)) ∧
      ∃ supply, u = { s with filters := { s.filters with supplySag := supply } } := by
  rcases h with ⟨hp, hb, hf, rfl, rfl, rfl⟩ | ⟨hp, ht, rfl, rfl, rfl⟩ | ⟨hp, ht, rfl, rfl, rfl⟩ |
    ⟨hp, ht, rfl, rfl, rfl⟩
  · exact ⟨congrArg Host.Outcome.next
      (sampleInput_rise (i := .supplySag) hd hf (by simp [State.watches, hp, hb])), _, rfl⟩
  · exact ⟨congrArg Host.Outcome.next (if_pos (by simp [State.phaseTimed, hp, ht])), _, rfl⟩
  · exact ⟨congrArg Host.Outcome.next (if_pos (by simp [State.phaseTimed, hp, ht])), _, rfl⟩
  · exact ⟨congrArg Host.Outcome.next (if_pos (by simp [State.phaseTimed, hp, ht])), _, rfl⟩

end Sys2Proof.Machine

open Sys2Proof Sys2Proof.Machine

/-- Settles O50: each cause fails the attempt in one way, and the count of attempts and of skips tells what follows. -/
theorem failedAttemptsAreRetriedOrEndTheThread : Obligations.FailedAttemptsAreRetriedOrEndTheThread := by
  intro s u c f hd hr hs hc hfails
  obtain ⟨hx, supply, rfl⟩ := FailsAttempt.exec_eq hfails hd
  refine ⟨fun h => ?_, fun p hrun hcur hst ha h hw => ⟨fun hk => ?_, fun hk => ?_⟩⟩
  · rw [attemptFailed_retries (by exact hs) (by exact hc) (by exact h)] at hx
    exact ⟨_, hx, finish_settles _ s ⟨hr, Phase.noConfusion⟩⟩
  · rw [attemptFailed_skips (by exact hs) (by exact hc) (by exact hrun) (by exact hcur) (by exact hst) (by exact ha)
      (by exact h) (by exact hk)] at hx
    exact ⟨_, hx, finish_settles _ s ⟨hr, Phase.noConfusion⟩⟩
  · rw [attemptFailed_halts (by exact hs) (by exact hcur) (by exact hst) (by exact ha) (by exact hw) (by exact h)
      (by exact hk)] at hx
    generalize hu : ({ s with filters := { s.filters with supplySag := supply } } : State) = u at hx ⊢
    have hcur' : u.seq.current = some p := by rw [← hu]; exact hcur
    obtain ⟨hidle, hraised, hwalk, hcount⟩ := threadSkipped_rest (f := f) hcur'
    have hset := finish_settles ((u.threadSkipped f p).afterHalt .skipRun) s
      (afterHalt_calm (by rw [hraised, ← hu]; exact hr))
    obtain ⟨hrest, hhalt⟩ := haltedAtRest_of_settles hset (by rw [hwalk, ← hu]; exact hw)
    obtain ⟨hseq, hthr, -⟩ := settles_rest hset
    have hpart := (settles_part hset p).trans ((afterHalt_part hidle p).trans (threadSkipped_part hcur'))
    refine ⟨_, hx, hrest, hhalt, ?_, by rw [hpart]; rfl, by rw [hpart]; rfl, by rw [hthr]; rfl⟩
    have hk' : 2 ≤ u.seq.skipCount := by rw [← hu]; exact hk
    rw [hseq]
    change (u.threadSkipped f p).seq.skipCount = 3
    omega
end

section
/-! The end of a cutter stroke: what a thread and a cut request go on to (R122, R123, R130, R132): O48. -/

namespace Sys2Proof.Machine

variable {s u v b : State} {p n : PartNo}

/-! ### An event that ends in ANNEAL_WAIT (R123) -/

/-- What is taken from an effect settles it, in every phase of Threader Control. -/
theorem conclude_settles (b u : State) : State.settles b u (conclude b u) := by
  have hport : (announce b (derive u)).port = if noticeChanged b (derive u) then (setDue u).port else u.port := by
    have hp : (derive u).port = u.port := by rw [derive_rest]
    rw [announce]
    split
    · simp [setDue, State.modPort]
    · exact hp
  rw [conclude, announce_rest, hport]
  refine ⟨?_, derive_settled u, derive_gen u, (derive_cases u).imp And.left And.left,
    (derive_cases u).imp And.right And.right, derive_gap u, ?_, rfl⟩
  · show ({ derive u with port := _ } : State) = _
    rw [derive_rest]
  · show (derive u).coord = { u.coord with ap := (derive u).coord.ap, af := (derive u).coord.af }
    rw [derive_coord_eq]

theorem conclude_ap (b u : State) : (conclude b u).coord.ap = u.powerAllowance := by
  rw [conclude, announce_rest]
  show (derive u).coord.ap = _
  rw [derive_coord_eq]

theorem conclude_ceiling (b u : State) : (conclude b u).ceiling = u.ceiling := by
  have hframe : (conclude b u).port.frame = u.port.frame := by
    rw [conclude, announce]
    have hp : (derive u).port = u.port := by rw [derive_rest]
    split
    · rw [setDue, State.modPort, hp]
      split <;> rfl
    · rw [hp]
  have hdrawn : (conclude b u).coord.drawn = u.coord.drawn := by
    obtain ⟨-, -, -, -, -, -, hc, -⟩ := conclude_settles b u
    rw [hc]
  rw [State.ceiling, State.inFlight, hframe, hdrawn]
  rfl

theorem annealTest_short (h : u.powerAllowance < 6 ∨ u.ceiling < 6) : annealTest (conclude b u) = conclude b u := by
  refine if_neg fun ⟨_, hap, hpermit⟩ => ?_
  rw [conclude_ap] at hap
  rw [State.annealPermit, conclude_ceiling, decide_eq_true_eq] at hpermit
  rcases h with h | h
  · exact Nat.not_le.2 h hap
  · exact Nat.not_le.2 h hpermit

theorem finish_waits (hr : u.raised = []) (h : u.powerAllowance < 6 ∨ u.ceiling < 6) :
    finish b u = conclude b u := by
  have hr' : (conclude b u).raised = [] := by rw [conclude, announce_rest, derive_rest]; exact hr
  rw [finish, quiesce_calm _ _ hr, annealTest_short h, quiesce_calm _ _ hr', conclude_conclude]

/-- Threader Control in ANNEAL (R124). -/
def State.annealing (u : State) : State :=
  { u with thr := { u.thr with phase := .anneal, anneal := true, timer := some 1200, sagBlank := some 2 }
           filters := { u.filters with supplySag := u.filters.supplySag.followed } }

/-- ANNEAL_WAIT and ANNEAL are both heavy, so what follows from others stands as it is (R90). -/
theorem annealing_settled (h : v.settled) (hp : v.thr.phase = .annealWait) : v.annealing.settled := by
  have hheavy : v.heavy = true := by simp [State.heavy, hp]
  have hdraw : v.annealing.drawTarget = v.drawTarget := by rw [State.drawTarget, State.drawTarget, hheavy]; rfl
  obtain ⟨h1, h2, h3, h4, h5, h6, h7, h8, h9⟩ := h
  exact ⟨h1, h2, h3, h4, h5.trans hdraw.symm, h6, h7, h8, h9⟩

theorem conclude_annealing (h : v.settled) (hm : (v.gap.mark || v.gen.on) = v.gap.mark)
    (hp : v.thr.phase = .annealWait) : conclude v v.annealing = v.annealing := by
  have hheavy : v.heavy = v.annealing.heavy := by simp [State.heavy, hp, State.annealing]
  rw [conclude, derive_of_settled v.annealing (annealing_settled h hp) hm]
  have hsame : noticeChanged v v.annealing = noticeChanged v v := by
    rw [noticeChanged, ← hheavy]
    rfl
  rw [announce, hsame]
  exact if_neg (by simp [noticeChanged])

theorem settles_annealing (h : State.settles b u v) (hp : v.thr.phase = .annealWait) :
    State.settles b u.annealing v.annealing := by
  have hheavy : v.annealing.heavy = v.heavy := by simp [State.heavy, hp, State.annealing]
  have hchanged : noticeChanged b v.annealing = noticeChanged b v := by
    rw [noticeChanged, hheavy]
    rfl
  obtain ⟨hv, hset, hgen, hcond, hdry, hgap, hcoord, hport⟩ := h
  refine ⟨?_, annealing_settled hset hp, hgen, hcond, hdry, hgap, hcoord, ?_⟩
  · rw [hv]
    rfl
  · rw [hchanged]
    exact hport

theorem finish_anneals (hr : u.raised = []) (hs : u.seq.skipOwed = false) (hp : u.thr.phase = .annealWait)
    (hap : 6 ≤ u.powerAllowance) (hc : 6 ≤ u.ceiling) : State.settles b u.annealing (finish b u) := by
  have hcon := conclude_settles b u
  obtain ⟨hseq, hthr, -⟩ := settles_rest hcon
  have hp' : (conclude b u).thr.phase = .annealWait := by rw [hthr]; exact hp
  have hr' : (conclude b u).raised = [] := by rw [conclude, announce_rest, derive_rest]; exact hr
  have htest : annealTest (conclude b u) = (conclude b u).annealing := by
    rw [annealTest, if_pos ⟨hp', by rw [conclude_ap]; exact hap,
      by rw [State.annealPermit, conclude_ceiling]; exact decide_eq_true hc⟩,
      atBoundary_next (by rw [hseq]; exact hs)]
    rfl
  have hfin : finish b u = (conclude b u).annealing := by
    rw [finish, quiesce_calm _ _ hr, htest, quiesce_calm _ _ (by exact hr'),
      conclude_annealing (conclude_settled u b) (conclude_mark u b) hp']
  rw [hfin]
  exact settles_annealing hcon hp'

/-! ### The end of the stroke (R122) -/

/-- The stroke ended by CUTTER_DONE: the cutter released and its timer stopped. -/
def State.strokeDone (s : State) : State :=
  { s with thr := { s.thr with cutter := false, timer := none }
           filters := { s.filters with cutterDone := Filter.steady .asserted .asserted } }

/-- The cut request completed. -/
def State.cutDone (s : State) : State :=
  s.strokeDone.modThr fun t => { t with phase := .idle, request := .off, tensionCheck := false }

theorem strokeEnded_eq (s : State) : strokeEnded (modFilter .cutterDone (fun _ => Filter.risen) s) = s.strokeDone := by
  rw [strokeEnded, follow_eq]
  rfl

theorem cutterDone_taken (hd : s.seq.station ≠ .powerDown) (hp : s.thr.phase = .cutTip) (hcut : s.thr.cutter = true)
    (h : s.filters.cutterDone.idleClear) :
    exec (.cutterDone .asserted .asserted) s =
      .next (finish s (cutterDoneTaken (modFilter .cutterDone (fun _ => Filter.risen) s))) :=
  congrArg Host.Outcome.next (sampleInput_rise (i := .cutterDone) hd h (by simp [State.watches, hp, hcut]))

theorem cutterDoneTaken_cut (hreq : s.thr.request = .cut) :
    cutterDoneTaken (modFilter .cutterDone (fun _ => Filter.risen) s) = cutCompleted s.cutDone := by
  rw [cutterDoneTaken, strokeEnded_eq]
  exact if_pos hreq

theorem cutterDoneTaken_thread (hreq : s.thr.request = .thread) (hs : s.seq.skipOwed = false) :
    cutterDoneTaken (modFilter .cutterDone (fun _ => Filter.risen) s) =
      if s.seq.station = .held then s.strokeDone.modThr fun t => { t with phase := .idle, held := true }
      else s.strokeDone.modThr fun t => { t with phase := .annealWait } := by
  have hnot : ¬s.strokeDone.thr.request = .cut := by
    rw [show s.strokeDone.thr.request = .thread from hreq]
    exact WireRequest.noConfusion
  rw [cutterDoneTaken, strokeEnded_eq]
  exact (if_neg hnot).trans (atBoundary_next (by exact hs) _)

/-! ### What follows a completed cut (R23, R24, R28, R147) -/

theorem cutCompleted_free (h : u.seq.current = none) : cutCompleted u = selectionPoint u := by
  rw [cutCompleted, h]

theorem cutCompleted_recovers (hcur : u.seq.current = some p) (hs : u.seq.skipOwed = false)
    (ha : u.seq.activity = some .recovering) (hstep : u.seq.step = some .cut) :
    cutCompleted u = if u.seq.station = .held then setOwed .routeStep u else routeAfterCut u := by
  rw [cutCompleted, hcur]
  dsimp only
  rw [if_neg (by rw [hs]; exact Bool.false_ne_true), if_pos ⟨ha, hstep⟩]

theorem cutCompleted_tabbed (hcur : u.seq.current = some p) (hs : u.seq.skipOwed = false)
    (ha : u.seq.activity = some .wireCutting) (hst : (u.part p).state = .active) :
    cutCompleted u =
      selectionPoint (dropCurrent (clearSkips (u.takenUp p { u.part p with state := .tabbed }))) := by
  rw [cutCompleted, hcur]
  dsimp only
  rw [if_neg (by rw [hs]; exact Bool.false_ne_true),
    if_neg (fun h => by rw [ha] at h; exact Activity.noConfusion (Option.some.inj h.1)), if_pos hst]
  exact congrArg (fun x => selectionPoint (dropCurrent (clearSkips x)))
    (takeUp_eq p (fun r => { r with state := .tabbed }) u)

theorem selectionPoint_uncut (hrun : u.seq.station = .run) (hsel : u.selects n) (hst : (u.part n).state = .uncut) :
    selectionPoint u =
      { u with seq := { u.seq with activity := some .moving, current := some n }
               exe := u.exe.bound (u.part n).startHole } := by
  rw [selectionPoint, if_neg (by rw [hrun]; exact Station.noConfusion), choosePart_of_selects hsel]
  exact beginPart_uncut hst

theorem selectionPoint_none (hrun : u.seq.station = .run) (h : ∀ q, (u.part q).enabled = true →
    (u.part q).state = .released ∨ (u.part q).state = .hung ∨ (u.part q).state = .skipped) :
    selectionPoint u =
      { u with seq := { u.seq.ended .idle with window := u.seq.window }, locks := []
               filters := u.filters.limitsFollowed
               reports := (queueReport .jobEnd none none u.gen.total u).reports } := by
  rw [selectionPoint, if_neg (by rw [hrun]; exact Station.noConfusion),
    choosePart_none fun q hq => rank_final (h q hq)]
  exact enterIdle_eq _

theorem routeAfterCut_hole (hcur : u.seq.current = some p) (h : u.seq.route = .hole) :
    routeAfterCut u = { u with seq := { u.seq with step := some .move }, exe := u.exe.bound (u.part p).startHole } := by
  rw [routeAfterCut, hcur, h]
  rfl

theorem routeAfterCut_tab {at_ : Point} (hcur : u.seq.current = some p) (h : u.seq.route = .tab)
    (ht : (u.part p).tab.map TabPoint.at_ = some at_) :
    routeAfterCut u = { u with seq := { u.seq with step := some .move }, exe := u.exe.bound at_ } := by
  rw [routeAfterCut, hcur, h]
  dsimp only
  rw [tabTarget, ht]
  rfl

/-- A part that becomes TABBED has the last rank, behind every UNCUT one (R23). -/
theorem selects_takenUp_tabbed (hn : s.selects n) (hst : (s.part n).state = .uncut) (hp : n ≠ p) {w : PartRecord}
    (hw : w.state = .tabbed) (hpart : ∀ q, q ≠ p → u.part q = s.part q) (hself : u.part p = w) : u.selects n := by
  obtain ⟨hen, k, hk, hbest⟩ := hn
  rw [PartRecord.rank, hst, Option.mem_some_iff] at hk
  subst hk
  refine ⟨by rw [hpart n hp]; exact hen, 2, by rw [hpart n hp, PartRecord.rank, hst]; rfl, fun q hq j hj => ?_⟩
  by_cases hqp : q = p
  · subst hqp
    rw [hself, PartRecord.rank, hw, Option.mem_some_iff] at hj
    exact .inl (by omega)
  · rw [hpart q hqp] at hq hj
    exact hbest q hq j hj

/-- The part TABBED and the next part taken up, its move begun. -/
def State.tabbedOnTo (s : State) (p n : PartNo) : State :=
  { s.cutDone.takenUp p { s.part p with state := .tabbed } with
    exe := s.exe.bound (s.part n).startHole
    seq := { s.seq.noRecovery with activity := some .moving, current := some n, passStart := none, skipCount := 0
                                   skipOwed := false } }

theorem tabbedOnTo_part_ne {q : PartNo} (h : q ≠ p) : (s.tabbedOnTo p n).part q = s.part q :=
  takenUp_part_ne h s.cutDone { s.part p with state := .tabbed }

theorem tabbedOnTo_part_self : (s.tabbedOnTo p n).part p = { s.part p with state := .tabbed } :=
  takenUp_part_self s.cutDone p { s.part p with state := .tabbed }

theorem cutCompleted_tabbedOnTo (hcur : s.seq.current = some p) (hs : s.seq.skipOwed = false)
    (hrun : s.seq.station = .run) (ha : s.seq.activity = some .wireCutting) (hst : (s.part p).state = .active)
    (hsel : s.selects n) (hn : (s.part n).state = .uncut) : cutCompleted s.cutDone = s.tabbedOnTo p n := by
  have hnp : n ≠ p := by
    rintro rfl
    rw [hst] at hn
    exact PartState.noConfusion hn
  have hpart : ∀ q, q ≠ p → (s.cutDone.takenUp p { s.part p with state := .tabbed }).part q = s.part q :=
    fun q hq => takenUp_part_ne hq _ _
  have hself := takenUp_part_self s.cutDone p { s.part p with state := .tabbed }
  have hnext := selectionPoint_uncut
    (u := dropCurrent (clearSkips (s.cutDone.takenUp p { s.part p with state := .tabbed }))) (n := n) hrun
    (selects_takenUp_tabbed hsel hn hnp rfl hpart hself) ((congrArg PartRecord.state (hpart n hnp)).trans hn)
  rw [cutCompleted_tabbed (by exact hcur) (by exact hs) (by exact ha) (by exact hst), State.tabbedOnTo, ← hpart n hnp]
  exact hnext

end Sys2Proof.Machine

open Sys2Proof Sys2Proof.Machine

/-- Settles O48: the stroke's end leaves a thread or a completed cut; each is then followed to the state it leads on
to, and the end of the event settles that state, with ANNEAL_WAIT's test passed or not. -/
theorem strokeEndLeadsOn : Obligations.StrokeEndLeadsOn := by
  unfold Obligations.StrokeEndLeadsOn
  intro s hr hp hcut hidle
  dsimp only
  have taken : s.seq.station = .run ∨ s.seq.station = .held →
      exec (.cutterDone .asserted .asserted) s =
        .next (finish s (cutterDoneTaken (modFilter .cutterDone (fun _ => Filter.risen) s))) := fun h =>
    cutterDone_taken (by rcases h with h | h <;> rw [h] <;> exact Station.noConfusion) hp hcut hidle
  refine ⟨?_, ?_, ?_, ?_, ?_, ?_⟩
  · intro hreq hrun hs hshort
    refine ⟨_, taken (.inl hrun), ?_⟩
    rw [cutterDoneTaken_thread hreq hs, if_neg (by rw [hrun]; exact Station.noConfusion),
      finish_waits (by exact hr) (by exact hshort)]
    exact conclude_settles _ _
  · intro hreq hrun hs hap hc
    refine ⟨_, taken (.inl hrun), ?_⟩
    rw [cutterDoneTaken_thread hreq hs, if_neg (by rw [hrun]; exact Station.noConfusion)]
    exact finish_anneals (by exact hr) (by exact hs) rfl (by exact hap) (by exact hc)
  · intro hreq hheld hs
    refine ⟨_, taken (.inr hheld), ?_⟩
    rw [cutterDoneTaken_thread hreq hs, if_pos hheld]
    exact finish_settles _ s ⟨hr, Phase.noConfusion⟩
  · intro p hreq hs hcur ha hstep
    constructor
    · intro hheld
      refine ⟨_, taken (.inr hheld), ?_⟩
      rw [cutterDoneTaken_cut hreq, cutCompleted_recovers (by exact hcur) (by exact hs) (by exact ha) (by exact hstep),
        if_pos (by exact hheld)]
      exact finish_settles _ s ⟨hr, Phase.noConfusion⟩
    · intro at_ hrun hroute
      refine ⟨_, taken (.inl hrun), ?_⟩
      rw [cutterDoneTaken_cut hreq, cutCompleted_recovers (by exact hcur) (by exact hs) (by exact ha) (by exact hstep),
        if_neg (by rw [show s.cutDone.seq.station = .run from hrun]; exact Station.noConfusion)]
      have hroute' : routeAfterCut s.cutDone =
          { s.cutDone with seq := { s.seq with step := some .move }, exe := s.exe.bound at_ } := by
        rcases hroute with ⟨h, rfl⟩ | ⟨h, ht⟩
        · exact routeAfterCut_hole (by exact hcur) h
        · exact routeAfterCut_tab (by exact hcur) h ht
      rw [hroute']
      exact finish_settles _ s ⟨hr, Phase.noConfusion⟩
  · intro p n hreq hrun hs hcur ha hst hsel hn
    have hx := taken (.inl hrun)
    rw [cutterDoneTaken_cut hreq, cutCompleted_tabbedOnTo hcur hs hrun ha hst hsel hn] at hx
    obtain ⟨t, ht, hset, -, hne, hself⟩ := ends_with_part hx ⟨hr, Phase.noConfusion⟩
      (fun q hq => tabbedOnTo_part_ne hq) tabbedOnTo_part_self
    exact ⟨t, ht, settles_nest hset, hne, hself⟩
  · intro hreq hrun hcur
    have hx := taken (.inl hrun)
    rw [cutterDoneTaken_cut hreq, cutCompleted_free (by exact hcur)] at hx
    constructor
    · intro n hsel hn
      rw [selectionPoint_uncut (by exact hrun) (by exact hsel) (by exact hn)] at hx
      exact ⟨_, hx, finish_settles _ s ⟨hr, Phase.noConfusion⟩⟩
    · intro hall
      rw [selectionPoint_none (by exact hrun) (by exact hall)] at hx
      exact ⟨_, hx, finish_settles _ s ⟨hr, Phase.noConfusion⟩⟩
end

section
/-! The servo period: what every expiry does before and after its motion, the period in HELD and the moves (R27, R46,
R94, R98, R108, R117): O35 and O36. -/

namespace Sys2Proof.Machine

variable {s u v : State} {p q : PartNo}

/-! ### Before the motion -/

/-- The state that the motion of an expiry finds: 1 ms on, the period closed and the arc guard taken. -/
def State.ticked (s : State) : State :=
  { s with seq := s.seq.aged, thr := s.thr.aged, now := s.now + 1, gap := (closeCapture s).gap
           gen := (guardTaken s.gap.capture s).gen, coord := (tick s).coord, port := (tick s).port }

theorem guardTaken_gen (c : Capture) (h : u.gen = v.gen) : (guardTaken c u).gen = (guardTaken c v).gen := by
  rw [guardTaken, guardTaken]
  split
  · rw [State.modGen, State.modGen, h]
  · exact h

theorem tick_timers (s : State) :
    (tick s).seq = s.seq.aged ∧ (tick s).thr = s.thr.aged ∧ (tick s).now = s.now + 1 := ⟨rfl, rfl, rfl⟩

theorem closeCapture_tick (s : State) : (closeCapture (tick s)).gap = (closeCapture s).gap := rfl

theorem ticked_eq (s : State) : guardTaken s.gap.capture (closeCapture (tick s)) = s.ticked := by
  have hgen := guardTaken_gen (u := closeCapture (tick s)) (v := s) s.gap.capture (by simp)
  apply State.eq_of_fields
  all_goals simp [State.ticked, tick_timers, closeCapture_tick, hgen]

theorem guardTaken_level (c : Capture) (u : State) : (guardTaken c u).gen.level = u.gen.level := by
  simp only [guardTaken, State.modGen, apply_ite State.gen, apply_ite Generator.level, ite_self]

theorem ticked_level (s : State) : s.ticked.gen.level = s.gen.level := by
  rw [State.ticked, guardTaken_level]

/-! ### After the motion -/

theorem progressed_eq (front : Option PathPoint) (r : PartRecord) :
    r.progressed front = { r with progress := PathPoint.later front r.progress } := by
  unfold PartRecord.progressed PathPoint.later
  split
  next f g hg =>
    split
    · rfl
    · rw [← hg]
  next => rfl
  next => rfl

/-- The state that the Sequencer finds after the motion: the part credited and the period reported. -/
def State.periodEnd (s v : State) : State := periodReport (creditPart s.frontIsCurrent s.gap.mark v)

theorem creditPart_rest (c m : Bool) (u : State) : creditPart c m u = { u with nest := (creditPart c m u).nest } := by
  rw [creditPart]
  split <;> rfl

theorem periodReport_rest (u : State) :
    periodReport u = { u with gen := (periodReport u).gen, gap := (periodReport u).gap } := by
  apply State.eq_of_fields
  all_goals simp

theorem periodEnd_rest (s v : State) :
    s.periodEnd v =
      { v with nest := (s.periodEnd v).nest, gen := (s.periodEnd v).gen, gap := (s.periodEnd v).gap } := by
  have h1 := creditPart_rest s.frontIsCurrent s.gap.mark v
  have h2 := periodReport_rest (creditPart s.frontIsCurrent s.gap.mark v)
  have h3 : (s.periodEnd v).nest = (creditPart s.frontIsCurrent s.gap.mark v).nest := by
    rw [State.periodEnd, h2]
  rw [h3, State.periodEnd, h2, h1]

theorem frontIsCurrent_iff : s.frontIsCurrent = true ↔ s.exe.task = .path ∨ s.seq.passStart.isSome = true := by
  simp [State.frontIsCurrent]

/-- The credit of a period as the statements give it (R27, R94). -/
theorem credited_eq (s : State) (front : Option PathPoint) (q : PartNo) :
    (let r := if s.frontIsCurrent then (s.part q).progressed front else s.part q
     if s.gap.mark then { r with erosion := min (r.erosion + 1) 4294967295 } else r) =
      { s.part q with
        progress := if s.exe.task = .path ∨ s.seq.passStart.isSome then PathPoint.later front (s.part q).progress
                    else (s.part q).progress
        erosion := if s.gap.mark = true then min ((s.part q).erosion + 1) 4294967295 else (s.part q).erosion } := by
  by_cases hf : s.exe.task = .path ∨ s.seq.passStart.isSome = true <;> by_cases hm : s.gap.mark = true <;>
    simp [hf, hm, frontIsCurrent_iff, progressed_eq]

/-- The part worked is credited where the motion left its record and the current part as they stood. -/
theorem periodEnd_part (hn : v.nest = s.nest) (hc : v.seq.current = s.seq.current) (q : PartNo) :
    (s.periodEnd v).part q = s.credited v.exe.front q := by
  have hpart : ∀ q, v.part q = s.part q := fun q => congrArg (·[q]) hn
  have hw : v.workingPart = s.workingPart := by
    rw [State.workingPart, State.workingPart, hc]
    exact congrArg (Option.filter · _) (funext fun q => by rw [hpart q])
  have hnest : (s.periodEnd v).nest = (creditPart s.frontIsCurrent s.gap.mark v).nest := by
    rw [State.periodEnd, periodReport_rest]
  have hnest' : (s.periodEnd v).part q = (creditPart s.frontIsCurrent s.gap.mark v).part q :=
    congrArg (·[q]) hnest
  rw [hnest', creditPart, hw, State.credited]
  split
  next hnone => rw [if_neg (by rw [hnone]; exact nofun), hpart]
  next p hsome =>
    by_cases hq : q = p
    · subst hq
      rw [if_pos hsome, modPart_part_self, hpart]
      exact credited_eq s v.exe.front q
    · rw [if_neg (by rw [hsome]; exact fun h => hq (Option.some.inj h).symm), modPart_part_ne hq, hpart]

theorem periodEnd_frame (s v : State) :
    (s.periodEnd v).seq = v.seq ∧ (s.periodEnd v).thr = v.thr ∧ (s.periodEnd v).exe = v.exe ∧
      (s.periodEnd v).filters = v.filters ∧ (s.periodEnd v).queue = v.queue ∧ (s.periodEnd v).history = v.history ∧
      (s.periodEnd v).fetch = v.fetch := by
  simp [State.periodEnd]

/-- The credit writes the progress and the erosion time alone. -/
theorem credited_rest (s : State) (f : Option PathPoint) (q : PartNo) :
    s.credited f q =
      { s.part q with progress := (s.credited f q).progress, erosion := (s.credited f q).erosion } := by
  rw [State.credited]
  split <;> rfl

/-! ### The expiry -/

theorem servo_eq (hd : s.seq.station ≠ .powerDown) {h : Option HandOver} (hm : motion s.ticked = (v, h)) :
    exec .servoPeriodExpiry s = .next (finish s (handOver h (s.periodEnd v))) := by
  show execServoPeriodExpiry s = _
  rw [execServoPeriodExpiry, if_neg hd, servoExpiry,
    show (closeCapture (tick s)).gap.last = s.gap.capture from rfl, ticked_eq, hm]
  rfl

/-- An expiry that leaves `u` when the Sequencer has taken what the motion handed over. -/
theorem servo_ends {h : Option HandOver} (hd : s.seq.station ≠ .powerDown) (hm : motion s.ticked = (v, h))
    (hu : handOver h (s.periodEnd v) = u) (hcalm : u.calm) :
    ∃ t, exec .servoPeriodExpiry s = .next t ∧ State.settles s u t := by
  have hx := servo_eq hd hm
  rw [hu] at hx
  exact ⟨_, hx, finish_settles u s hcalm⟩

/-- An expiry whose motion hands nothing over. -/
theorem servo_stays (hd : s.seq.station ≠ .powerDown) (hm : motion s.ticked = (v, none)) (hcalm : v.calm)
    (hn : v.nest = s.nest) (hc : v.seq.current = s.seq.current) :
    ∃ t, exec .servoPeriodExpiry s = .next t ∧ t.settled ∧
      t = { v with gap := t.gap, gen := t.gen, coord := t.coord, port := t.port, nest := t.nest } ∧
      ∀ q, t.part q = s.credited v.exe.front q := by
  have hrest := periodEnd_rest s v
  have hcalm' : (s.periodEnd v).calm := by rw [hrest]; exact hcalm
  obtain ⟨t, hx, hset⟩ := servo_ends hd hm (u := s.periodEnd v) rfl hcalm'
  refine ⟨t, hx, hset.2.1, ?_, fun q => (settles_part hset q).trans (periodEnd_part hn hc q)⟩
  obtain ⟨ht, -⟩ := hset
  rw [ht, hrest]

theorem calm_ticked (h : s.calm) : s.ticked.calm := h

/-! ### Moves (R108) -/

theorem motion_held (h : s.seq.station = .held) : motion s.ticked = (s.ticked, none) := if_pos h

theorem motion_move (hrun : s.seq.station = .run) (htask : s.exe.task = .move) :
    motion s.ticked = advanceMove s.ticked := by
  have hnot : ¬s.ticked.seq.station = .held := by
    rw [show s.ticked.seq.station = .run from hrun]
    exact Station.noConfusion
  rw [motion, if_neg hnot, show s.ticked.exe.task = .move from htask]

/-- The Cut Executor at a progress of its move (R108). -/
def Executor.moved (e : Executor) (m : Move) (k : Nat) : Executor :=
  { e with move := some { m with progress := k }, position := linePoint m.start m.target m.length k }

theorem advanceMove_short {m : Move} (hm : u.exe.move = some m) (h : m.progress + u.setup.rapid < m.length) :
    advanceMove u = ({ u with exe := u.exe.moved m (m.progress + u.setup.rapid) }, none) := by
  rw [advanceMove, hm]
  dsimp only
  rw [Nat.min_eq_left (Nat.le_of_lt h), if_neg (Nat.ne_of_lt h)]
  rfl

theorem advanceMove_arrives {m : Move} (hm : u.exe.move = some m) (h : m.length ≤ m.progress + u.setup.rapid) :
    advanceMove u = ({ u with exe := { u.exe.moved m m.length with task := .off } }, some .arrival) := by
  rw [advanceMove, hm]
  dsimp only
  rw [Nat.min_eq_right h, if_pos rfl]
  rfl

/-! ### The arrival (R43, R44, R142, R145) -/

/-- A thread request with nothing in hand and CUTTER_DONE clear enters CUT_TIP (R121). -/
theorem requestThread_off (hthr : u.thr.request = .off) (hc : u.filters.cutterDone.level = .clear) (mode : Mode)
    (limit : Nat) :
    requestThread mode limit u = { u with thr := u.thr.threading mode limit, filters := u.filters.cutTip } := by
  rw [requestThread, discardRequest, if_pos hthr, enterCutTip_eq (by exact hc)]
  rfl

theorem moveArrived_moving (hs : u.seq.skipOwed = false) (hcur : u.seq.current = some p)
    (ha : u.seq.activity = some .moving) (hthr : u.thr.request = .off)
    (hc : u.filters.cutterDone.level = .clear) :
    moveArrived u =
      { u with seq := { u.seq with activity := some .threading }, filters := u.filters.cutTip
               thr := u.thr.threading (if (u.part p).state = .uncut then .hole else .slot)
                 (u.part p).threadLimit } := by
  rw [moveArrived, atBoundary_next hs]
  conv_lhs => simp only [hcur, ha]
  rw [requestThread_off (by exact hthr) (by exact hc)]
  rfl

theorem moveArrived_recovering (hs : u.seq.skipOwed = false) (hcur : u.seq.current = some p)
    (ha : u.seq.activity = some .recovering) (hthr : u.thr.request = .off)
    (hc : u.filters.cutterDone.level = .clear) :
    moveArrived u =
      { u with seq := { u.seq with step := some .thread }, filters := u.filters.cutTip
               thr := u.thr.threading (if u.seq.route = .tab then .slot else .hole) (u.part p).threadLimit } := by
  rw [moveArrived, atBoundary_next hs]
  conv_lhs => simp only [hcur, ha]
  rw [requestThread_off (by exact hthr) (by exact hc)]
  rfl

end Sys2Proof.Machine

open Sys2Proof Sys2Proof.Machine

/-- Settles O35: the motion of a held station is none, so the expiry is the credit and the report alone. -/
theorem heldPeriodMovesNothing : Obligations.HeldPeriodMovesNothing := by
  unfold Obligations.HeldPeriodMovesNothing
  intro s hheld hcalm
  obtain ⟨t, hx, hset, ht, hpart⟩ := servo_stays (by rw [hheld]; exact Station.noConfusion) (motion_held hheld)
    (calm_ticked hcalm) rfl rfl
  refine ⟨t, hx, ht, ?_, hpart⟩
  obtain ⟨-, -, -, -, -, -, hon, -⟩ := hset
  have hst : t.seq.station = .held := by rw [ht]; exact hheld
  simp [hon, State.generatorAllowed, hst]

/-- Settles O36: a move short of its target changes the Executor alone; one that reaches it hands its arrival to the
Sequencer, which asks for the thread. -/
theorem movesAdvanceAndArrive : Obligations.MovesAdvanceAndArrive := by
  unfold Obligations.MovesAdvanceAndArrive
  refine ⟨fun s m hrun htask hm hcalm hshort => ?_, fun s m p mode seq hrun htask hm hcalm hpos hreach hcur hs hreq hc
    hcase => ?_⟩
  · obtain ⟨t, hx, -, ht, hpart⟩ := servo_stays (by rw [hrun]; exact Station.noConfusion)
      ((motion_move hrun htask).trans (advanceMove_short (by exact hm) hshort)) hcalm rfl rfl
    exact ⟨t, hx, ht, hpart⟩
  · have hm' : motion s.ticked =
        ({ s.ticked with exe := { s.exe.moved m m.length with task := .off } }, some .arrival) :=
      (motion_move hrun htask).trans (advanceMove_arrives (by exact hm) hreach)
    generalize hv : ({ s.ticked with exe := { s.exe.moved m m.length with task := .off } } : State) = v at hm'
    obtain ⟨hseq, hthr', -, hfil, -⟩ := periodEnd_frame s v
    have hpart : ∀ q, (s.periodEnd v).part q = s.credited v.exe.front q :=
      periodEnd_part (by rw [← hv]; rfl) (by rw [← hv]; rfl)
    have hthr : (s.periodEnd v).thr = s.thr.aged := by rw [hthr', ← hv]; rfl
    have hseq' : (s.periodEnd v).seq = s.seq.aged := by rw [hseq, ← hv]; rfl
    have hfil' : (s.periodEnd v).filters = s.filters := by rw [hfil, ← hv]; rfl
    have hstate : ((s.periodEnd v).part p).state = (s.part p).state := by rw [hpart, credited_rest]
    have hlimit : ((s.periodEnd v).part p).threadLimit = (s.part p).threadLimit := by rw [hpart, credited_rest]
    have hu : handOver (some .arrival) (s.periodEnd v) =
        { s.periodEnd v with seq := seq, thr := s.thr.threading mode (s.part p).threadLimit
                             filters := s.filters.cutTip } := by
      rcases hcase with ⟨ha, rfl, rfl⟩ | ⟨ha, rfl, rfl⟩
      · refine (moveArrived_moving (by rw [hseq']; exact hs) (by rw [hseq']; exact hcur) (by rw [hseq']; exact ha)
          (by rw [hthr]; exact hreq) (by rw [hfil']; exact hc)).trans ?_
        rw [hseq', hthr, hfil', hstate, hlimit]
        rfl
      · refine (moveArrived_recovering (by rw [hseq']; exact hs) (by rw [hseq']; exact hcur) (by rw [hseq']; exact ha)
          (by rw [hthr]; exact hreq) (by rw [hfil']; exact hc)).trans ?_
        rw [hseq', hthr, hfil', hlimit]
        rfl
    have hraised : (s.periodEnd v).raised = [] := by rw [periodEnd_rest, ← hv]; exact hcalm.1
    obtain ⟨t, hx, hset⟩ :=
      servo_ends (by rw [hrun]; exact Station.noConfusion) hm' hu ⟨hraised, Phase.noConfusion⟩
    refine ⟨t, hx, ?_, fun q => (settles_part hset q).trans ((hpart q).trans (by rw [← hv]; rfl))⟩
    have hstop : linePoint m.start m.target m.length m.length = m.target := by
      rw [linePoint_eq _ _ hpos, lineAxis_stop _ _ hpos, lineAxis_stop _ _ hpos]
    obtain ⟨ht, -⟩ := hset
    rw [ht, periodEnd_rest, ← hv, Executor.moved, hstop]
    rfl
end

section
/-! A forward walk of an expiry along the LINEs of the queue: cutting, dry and seeking (R97, R98, R102, R104, R141):
O37. -/

namespace Sys2Proof.Machine

variable {s u v : State} {p : PartNo} {e next : Entry} {rest more done : List Entry} {g : Gait} {st : Stride}
  {d k : Nat}

/-! ### Where a walk along the queue ends (R102, R104, R141) -/

theorem isPath_of_line (h : e.kind = .line) : e.isPath = true := by rw [Entry.isPath, h]

theorem walkQueue_within (he : e.isPath = true) (h : d < g.reach e - k) :
    walkQueue g (e :: rest) k d done = ⟨0, k + d, e :: rest, done, 0⟩ := by
  rw [walkQueue, if_neg (by rw [he]; decide), if_pos h]

/-- A dry walk ends at the first cut point of a segment. -/
theorem walkQueue_reach (he : e.isPath = true) (h : g.reach e - k ≤ d) (hlen : g.reach e < e.length) :
    walkQueue g (e :: rest) k d done = ⟨0, max k (g.reach e), e :: rest, done, d - (g.reach e - k)⟩ := by
  rw [walkQueue, if_neg (by rw [he]; decide), if_neg (Nat.not_lt.2 h), if_pos hlen]

theorem walkQueue_last (he : e.isPath = true) (h : g.reach e - k ≤ d) (hlen : g.reach e = e.length) :
    walkQueue g [e] k d done = ⟨0, 0, [], e :: done, d - (g.reach e - k)⟩ := by
  rw [walkQueue, if_neg (by rw [he]; decide), if_neg (Nat.not_lt.2 h), if_neg (by omega)]

theorem walkQueue_over (he : e.isPath = true) (h : g.reach e - k ≤ d) (hlen : g.reach e = e.length) :
    walkQueue g (e :: next :: more) k d done =
      if g.carries e next then walkQueue g (next :: more) 0 (d - (g.reach e - k)) (e :: done)
      else ⟨0, 0, next :: more, e :: done, d - (g.reach e - k)⟩ := by
  rw [walkQueue, if_neg (by rw [he]; decide), if_neg (Nat.not_lt.2 h), if_neg (by omega)]

/-! ### The state after a walk -/

/-- Where a walk leaves the blocks it writes, with the wire at a position (R97, R102, R109, R114). -/
def State.strode (u : State) (st : Stride) (position : Point) : State :=
  { u with
    queue := st.queue, history := (st.done ++ u.history).take Config.historySize
    fetch := if st.done = [] then u.fetch else { u.fetch with state := if u.fetch.state = .full then .running
                                                                        else u.fetch.state }
    exe := { u.exe with progress := st.progress, front := frontAfter st u.exe.front, stuck := 0
                        position := position } }

/-- A walk that completes no entry leaves the queue, the history and the Fetcher. -/
theorem strode_within {l : Nat} (hhist : u.history.length ≤ 32) (hq : u.queue = e :: rest) (position : Point) :
    u.strode ⟨0, k, e :: rest, [], l⟩ position =
      { u with exe := { u.exe with progress := k, front := frontAfter ⟨0, k, e :: rest, [], l⟩ u.exe.front, stuck := 0
                                   position := position } } := by
  have htake : ([] ++ u.history).take Config.historySize = u.history := List.take_of_length_le hhist
  rw [State.strode]
  dsimp only
  rw [htake, ← hq]
  rfl

/-- The setpoint of the end of a walk: on the head, or at the end of the last segment completed (R97). -/
def Stride.position (st : Stride) (stood : Point) : Point :=
  match st.queue, st.done with
  | h :: _, _ => h.pointAt st.progress
  | [], e :: _ => e.stop
  | [], [] => stood

theorem walkForward_strode (hcur : u.exe.cursor = 0) (hrd : u.exe.rd = 0) (hd : d ≠ 0)
    (hst : walkQueue g u.queue u.exe.progress d [] = st) (hc : st.cursor = 0) :
    clearStuck (walkForward g d u) = u.strode st u.exe.position := by
  have hwalk : walkHistory g u.queue u.history u.exe.cursor u.exe.progress d = st := by
    rw [hcur, walkHistory, hst]
  rw [walkForward, if_neg hd, hwalk, State.strode, applyStride]
  dsimp only
  rw [hcur, hrd, hc, Nat.zero_sub]
  by_cases hdone : st.done = []
  · rw [if_pos hdone, if_pos hdone]
    rfl
  · rw [if_neg hdone, if_neg hdone]
    rfl

theorem takeHead_path (h : ∀ e ∈ u.queue.head?, e.isPath = true) : takeHead u = (u, none) := by
  rw [takeHead]
  split
  next e rest hq =>
    have he : e.isPath = true := h e (by rw [hq]; rfl)
    rw [Entry.isPath] at he
    split
    · split <;> simp_all
    · rfl
  next => rfl

theorem writeSetpoints_on (hcur : u.exe.cursor = 0) (hq : u.queue = e :: rest) (he : e.isPath = true) :
    writeSetpoints u = { u with exe := { u.exe with position := e.pointAt u.exe.progress } } := by
  have hseg : u.workingSegment = some e := by simp [State.workingSegment, hcur, hq, he]
  rw [writeSetpoints, hseg]
  rfl

theorem writeSetpoints_past (hcur : u.exe.cursor = 0) (hq : u.queue = []) (hh : u.history = e :: rest) :
    writeSetpoints u = { u with exe := { u.exe with position := e.stop } } := by
  have hseg : u.workingSegment = none := by simp [State.workingSegment, hcur, hq]
  conv_lhs => rw [writeSetpoints, hseg, hh]
  exact if_pos hcur

theorem writeSetpoints_strode (hcur : u.exe.cursor = 0) (hpath : ∀ e ∈ st.queue.head?, e.isPath = true)
    (hsome : st.queue = [] → st.done ≠ []) (pos : Point) :
    writeSetpoints (u.strode st pos) = u.strode st (st.position pos) := by
  rcases hq : st.queue with - | ⟨e, rest⟩
  · rcases hdone : st.done with - | ⟨e, rest⟩
    · exact absurd hdone (hsome hq)
    · rw [Stride.position, hq, hdone]
      exact writeSetpoints_past (rest := (rest ++ u.history).take 31) hcur hq (by
        show (st.done ++ u.history).take 32 = _
        rw [hdone]
        rfl)
  · rw [Stride.position, hq]
    exact writeSetpoints_on hcur hq (hpath e (by rw [hq]; rfl))

/-! ### The motion of an expiry along the path (R98) -/

theorem motion_path (hrun : s.seq.station = .run) (htask : s.exe.task = .path) :
    motion s.ticked = advancePath s.ticked := by
  have hnot : ¬s.ticked.seq.station = .held := by
    rw [show s.ticked.seq.station = .run from hrun]
    exact Station.noConfusion
  rw [motion, if_neg hnot, show s.ticked.exe.task = .path from htask]

theorem afterWalk_free (hs : v.seq.skipOwed = false) : afterWalk u v = takeHead v :=
  if_neg fun h => by rw [hs] at h; exact Bool.false_ne_true h.1

/-- A walk that ends on a segment or with the queue empty, with its setpoints. -/
theorem advancePath_walks (hseek : u.exe.seek = none) (hcur : u.exe.cursor = 0) (hrd : u.exe.rd = 0)
    (hs : u.seq.skipOwed = false) (hd : d ≠ 0) (hwalk : walkPath u = afterWalk u (clearStuck (walkForward g d u)))
    (hst : walkQueue g u.queue u.exe.progress d [] = st) (hc : st.cursor = 0)
    (hpath : ∀ e ∈ st.queue.head?, e.isPath = true) (hsome : st.queue = [] → st.done ≠ [])
    (hmoved : st.progress ≠ u.exe.progress ∨ st.queue.length < u.queue.length) :
    advancePath u = targetCheck (u.strode st (st.position u.exe.position), none) := by
  have htake : walkPath u = (u.strode st u.exe.position, none) := by
    rw [hwalk, walkForward_strode hcur hrd hd hst hc, afterWalk_free (by exact hs), takeHead_path (by exact hpath)]
  rw [advancePath, hseek, htake]
  dsimp only
  rw [if_pos (.inr hmoved), writeSetpoints_strode hcur hpath hsome]

/-! ### The distances that cap a walk (R101) -/

theorem toStop_cons (he : e.isPath = true) : toStop (e :: rest) = (toStop rest).map (e.length + ·) := by
  rw [toStop, if_pos he]

theorem toStop_head {a : Nat} (he : e.isPath = true) (h : toStop (e :: rest) = some a) : e.length ≤ a := by
  rw [toStop_cons he, Option.map_eq_some_iff] at h
  obtain ⟨b, -, rfl⟩ := h
  exact Nat.le_add_right _ _

theorem toStop_next {a : Nat} (he : e.isPath = true) (hn : next.isPath = true)
    (h : toStop (e :: next :: more) = some a) : e.length + next.length ≤ a := by
  rw [toStop_cons he, Option.map_eq_some_iff] at h
  obtain ⟨b, hb, rfl⟩ := h
  exact Nat.add_le_add_left (toStop_head hn hb) _

/-- A cap that lies at or beyond a distance leaves that distance to the walk. -/
theorem le_capStep {n : Nat} (hcur : u.exe.cursor = 0) (hs : u.seq.skipOwed = false) (hnd : n ≤ d)
    (h : ∀ a, toStop u.queue = some a → n + u.exe.progress ≤ a) : n ≤ capStep u d := by
  rw [capStep, capFromHead, if_neg (by rw [hs]; decide), hcur]
  split
  next a ha =>
    have := h a ha
    simp only [List.take_zero, lengths, List.map_nil, List.sum_nil]
    omega
  next => exact hnd

theorem capStep_le (u : State) (d : Nat) : capStep u d ≤ d := by
  rw [capStep]
  split
  · exact Nat.min_le_left _ _
  · exact Nat.le_refl d

theorem capStep_free (hcur : u.exe.cursor = 0) (hs : u.seq.skipOwed = false)
    (h : ∀ a, toStop u.queue = some a → d + u.exe.progress ≤ a) : capStep u d = d :=
  Nat.le_antisymm (capStep_le u d) (le_capStep hcur hs (Nat.le_refl d) h)

/-! ### What an expiry walks (R98) -/

theorem walkPath_cut (hcur : u.exe.cursor = 0) (hrd : u.exe.rd = 0) (hq : u.queue = e :: rest)
    (he : e.isPath = true) (hdry : e.dry = 0) (ha : u.seq.activity = some .cutting)
    (hform : formStep u.gap.last (u.condition e.cond) u.gen.level = .forward d) :
    walkPath u = afterWalk u (clearStuck (walkForward .cut (capStep u d) u)) := by
  have hseg : u.workingSegment = some e := by simp [State.workingSegment, hcur, hq, he]
  have hno : ¬u.exe.progress < e.dry := by rw [hdry]; exact Nat.not_lt_zero _
  rw [walkPath, hseg]
  dsimp only
  rw [if_neg hno, if_pos (by rw [ha]; rfl), cutStep, hform, hrd]
  rfl

theorem walkPath_dry (hcur : u.exe.cursor = 0) (hrd : u.exe.rd = 0) (hq : u.queue = e :: rest)
    (he : e.isPath = true) (hdry : u.exe.progress < e.dry) :
    walkPath u = afterWalk u (clearStuck (walkForward .dry (capStep u u.setup.dry) u)) := by
  have hseg : u.workingSegment = some e := by simp [State.workingSegment, hcur, hq, he]
  rw [walkPath, hseg]
  dsimp only
  rw [if_pos hdry, dryWalk, hrd]
  rfl

/-! ### The expiry that a walk ends -/

/-- An expiry that leaves these blocks, the part worked credited and a break point cleared where a recovery ends. -/
def State.walksTo (s : State) (seq : Sequencer) (exe : Executor) (queue history : List Entry) (fetch : Fetcher) :
    Prop :=
  ∃ t, exec .servoPeriodExpiry s = .next t ∧
    t = { s with seq := seq, thr := s.thr.aged, gap := t.gap, gen := t.gen, coord := t.coord, port := t.port
                 now := s.now + 1, nest := t.nest, queue := queue, history := history, fetch := fetch
                 exe := { exe with stuck := 0 } } ∧
    (∀ q, some q ≠ s.seq.current → t.part q = s.part q) ∧
    ∀ p, s.seq.current = some p →
      t.part p = { s.credited exe.front p with
                   breakPoint := if s.seq.activity = some .recovering ∧ seq.activity ≠ some .recovering then none
                                 else (s.part p).breakPoint }

theorem credited_other {q : PartNo} (h : some q ≠ s.seq.current) (f : Option PathPoint) :
    s.credited f q = s.part q := by
  refine if_neg fun hw => h ?_
  rw [State.workingPart, Option.filter_eq_some_iff] at hw
  exact hw.1.symm

theorem credited_breakPoint (s : State) (f : Option PathPoint) (q : PartNo) :
    (s.credited f q).breakPoint = (s.part q).breakPoint := by
  rw [credited_rest]

/-- A motion that hands nothing over. -/
theorem walksTo_stays {seq : Sequencer} {exe : Executor} {queue history : List Entry} {fetch : Fetcher}
    (hrun : s.seq.station = .run) (hcalm : s.calm)
    (hm : motion s.ticked = ({ s.ticked with seq := seq, queue := queue, history := history, fetch := fetch
                                             exe := { exe with stuck := 0 } }, none))
    (hcur : seq.current = s.seq.current) (hact : seq.activity = s.seq.activity) :
    s.walksTo seq exe queue history fetch := by
  obtain ⟨t, hx, -, ht, hpart⟩ := servo_stays (by rw [hrun]; exact Station.noConfusion) hm hcalm rfl hcur
  refine ⟨t, hx, ht, fun q hq => (hpart q).trans (credited_other hq _), fun p _ => ?_⟩
  rw [hpart p, hact, if_neg (fun h => h.2 h.1), ← credited_breakPoint s exe.front p]

theorem targetReached_eq (hcur : u.seq.current = some p) :
    targetReached u =
      { modPart p (fun r => { r with breakPoint := none }) u with
        seq := { u.seq.noRecovery with
                 activity := some (if (u.part p).pass = some .separation then .separating else .cutting) } } := by
  rw [targetReached, hcur]
  rfl

/-- A motion that reaches the target point of a recovery. -/
theorem walksTo_target {seq : Sequencer} {exe : Executor} {queue history : List Entry} {fetch : Fetcher}
    (hrun : s.seq.station = .run) (hcalm : s.calm) (hp : s.seq.current = some p)
    (ha : s.seq.activity = some .recovering)
    (hm : motion s.ticked = ({ s.ticked with seq := seq, queue := queue, history := history, fetch := fetch
                                             exe := { exe with stuck := 0 } }, some .target))
    (hcur : seq.current = s.seq.current) :
    s.walksTo { seq.noRecovery with
                activity := some (if (s.part p).pass = some .separation then .separating else .cutting) }
      exe queue history fetch := by
  generalize hv : ({ s.ticked with seq := seq, queue := queue, history := history, fetch := fetch
                                   exe := { exe with stuck := 0 } } : State) = v at hm
  have hcurv : (s.periodEnd v).seq.current = some p := by
    rw [periodEnd_rest, ← hv]
    exact hcur.trans hp
  have hpart : ∀ q, (s.periodEnd v).part q = s.credited exe.front q := fun q => by
    rw [periodEnd_part (by rw [← hv]; rfl) (by rw [← hv]; exact hcur), ← hv]
  have hpass : ((s.periodEnd v).part p).pass = (s.part p).pass := by rw [hpart, credited_rest]
  have hcalm' : (targetReached (s.periodEnd v)).calm := by
    rw [targetReached_eq hcurv, periodEnd_rest, ← hv]
    exact hcalm
  obtain ⟨t, hx, hset⟩ := servo_ends (h := some .target) (by rw [hrun]; exact Station.noConfusion) hm rfl hcalm'
  have hpartt : ∀ q, t.part q = (modPart p (fun r => { r with breakPoint := none }) (s.periodEnd v)).part q :=
    fun q => (settles_part hset q).trans (by
      rw [show handOver (some .target) (s.periodEnd v) = targetReached (s.periodEnd v) from rfl, targetReached_eq hcurv]
      rfl)
  refine ⟨t, hx, ?_, fun q hq => ?_, fun q hq => ?_⟩
  · obtain ⟨ht, -⟩ := hset
    rw [ht, show handOver (some .target) (s.periodEnd v) = targetReached (s.periodEnd v) from rfl,
      targetReached_eq hcurv, hpass, periodEnd_rest, ← hv]
    rfl
  · have hqp : q ≠ p := fun h => hq (by rw [h, hp])
    rw [hpartt, modPart_part_ne hqp, hpart, credited_other hq]
  · obtain rfl : q = p := Option.some.inj (hq.symm.trans hp)
    have hnot : some (if (s.part q).pass = some .separation then Activity.separating else .cutting) ≠
        some .recovering := by split <;> exact nofun
    rw [hpartt, modPart_part_self, hpart, if_pos ⟨ha, hnot⟩]

/-! ### A walk that ends on a segment, and one that ends with the queue -/

/-- The Cut Executor on a LINE at a progress (R97, R106). -/
def Executor.on (x : Executor) (e : Entry) (k : Nat) : Executor :=
  { x with progress := k, front := some ⟨e.pass, e.ordinal, k⟩, position := linePoint e.start e.stop e.length k }

/-- The Cut Executor past the last entry of the queue. -/
def Executor.past (x : Executor) (e : Entry) : Executor :=
  { x with progress := 0, front := some ⟨e.pass, e.ordinal + 1, 0⟩, position := e.stop }

/-- The Fetcher after entries have left the queue (R76). -/
def Fetcher.refilled (f : Fetcher) : Fetcher :=
  { f with state := if f.state = .full then .running else f.state }

theorem pointAt_line (h : e.kind = .line) (k : Nat) : e.pointAt k = linePoint e.start e.stop e.length k := by
  rw [Entry.pointAt, h]

theorem targetCheck_passes (h : ¬(u.seq.activity = some .recovering ∧ u.exe.seek = none ∧ u.workingDry = some false)) :
    targetCheck (u, none) = (u, none) := if_neg h

theorem targetCheck_reached (ha : u.seq.activity = some .recovering) (hs : u.exe.seek = none)
    (hd : u.workingDry = some false) : targetCheck (u, none) = (u, some .target) := if_pos ⟨ha, hs, hd⟩

theorem workingDry_head (hcur : u.exe.cursor = 0) (hq : u.queue = e :: rest) (he : e.isPath = true) :
    u.workingDry = some (decide (u.exe.progress < e.dry)) := by
  simp [State.workingDry, State.workingSegment, hcur, hq, he]

section
variable (hrun : s.seq.station = .run) (hs : s.seq.skipOwed = false) (hcalm : s.calm) (htask : s.exe.task = .path)
  (hcur : s.exe.cursor = 0) (hrd : s.exe.rd = 0) (hseek : s.exe.seek = none)
include hrun hs hcalm htask hcur hrd hseek

section
variable {l : Nat} (hd : d ≠ 0) (hwalk : walkPath s.ticked = afterWalk s.ticked (clearStuck (walkForward g d s.ticked)))
  (hst : walkQueue g s.queue s.exe.progress d [] = ⟨0, k, e :: rest, done, l⟩) (he : e.kind = .line)
  (hmoved : k ≠ s.exe.progress ∨ (e :: rest).length < s.queue.length)
include hd hwalk hst he hmoved

omit hcalm in
theorem motion_onto_line :
    motion s.ticked =
      targetCheck ({ s.ticked with
        queue := e :: rest, history := (done ++ s.history).take 32
        fetch := if done = [] then s.fetch else s.fetch.refilled
        exe := { s.exe.on e k with stuck := 0 } }, none) := by
  have hpath : ∀ h ∈ (e :: rest).head?, h.isPath = true := fun h hh => by
    obtain rfl := Option.some.inj hh
    exact isPath_of_line he
  rw [motion_path hrun htask,
    advancePath_walks (u := s.ticked) hseek hcur hrd hs hd hwalk hst rfl hpath
      (fun h => absurd h (List.cons_ne_nil _ _)) hmoved]
  rw [State.strode, Executor.on, ← pointAt_line he]
  rfl

theorem walksTo_line (hdry : s.seq.activity = some .recovering → k < e.dry) :
    s.walksTo s.seq.aged (s.exe.on e k) (e :: rest) ((done ++ s.history).take 32)
      (if done = [] then s.fetch else s.fetch.refilled) := by
  refine walksTo_stays hrun hcalm ((motion_onto_line hrun hs htask hcur hrd hseek hd hwalk hst he hmoved).trans
    (targetCheck_passes fun h => ?_)) rfl rfl
  obtain ⟨ha, -, hd⟩ := h
  have hlt := hd.symm.trans (workingDry_head (e := e) (rest := rest) hcur rfl (isPath_of_line he))
  exact of_decide_eq_false (Option.some.inj hlt).symm (hdry ha)

theorem walksTo_line_target (hp : s.seq.current = some p) (ha : s.seq.activity = some .recovering) (hdry : e.dry ≤ k) :
    s.walksTo { s.seq.aged.noRecovery with
                activity := some (if (s.part p).pass = some .separation then .separating else .cutting) }
      (s.exe.on e k) (e :: rest) ((done ++ s.history).take 32) (if done = [] then s.fetch else s.fetch.refilled) := by
  refine walksTo_target hrun hcalm hp ha ((motion_onto_line hrun hs htask hcur hrd hseek hd hwalk hst he
    hmoved).trans (targetCheck_reached ha hseek ?_)) rfl
  refine Eq.trans (workingDry_head (e := e) (rest := rest) ?_ rfl (isPath_of_line he)) ?_
  · exact hcur
  · exact congrArg some (decide_eq_false (Nat.not_lt.2 hdry))

end

theorem walksTo_past {l : Nat} (hd : d ≠ 0)
    (hwalk : walkPath s.ticked = afterWalk s.ticked (clearStuck (walkForward g d s.ticked)))
    (hst : walkQueue g s.queue s.exe.progress d [] = ⟨0, 0, [], [e], l⟩) (hq : s.queue = [e]) :
    s.walksTo s.seq.aged (s.exe.past e) [] (e :: s.history.take 31) s.fetch.refilled := by
  refine walksTo_stays hrun hcalm ?_ rfl rfl
  rw [motion_path hrun htask, advancePath_walks (u := s.ticked) hseek hcur hrd hs hd hwalk hst rfl
    (fun h hh => by cases hh) (fun _ => List.cons_ne_nil _ _)
    (.inr (by rw [show s.ticked.queue = [e] from hq]; exact Nat.zero_lt_one)),
    targetCheck_passes fun h => by
      have hseg : (s.ticked.strode ⟨0, 0, [], [e], l⟩ e.stop).workingDry = none := by
        simp [State.workingDry, State.workingSegment, State.strode, show s.ticked.exe.cursor = 0 from hcur]
      exact absurd (hseg.symm.trans h.2.2) nofun]
  rfl

/-! ### Cutting along a LINE (R102) -/

section
variable (hq : s.queue = e :: rest) (he : e.kind = .line)
include hq he

section
variable (ha : s.seq.activity = some .cutting) (hdry : e.dry = 0)
  (hform : formStep s.gap.capture (s.condition e.cond) s.gen.level = .forward d) (hd : 0 < d)
include ha hdry hform hd

omit hrun hcalm htask hseek hd in
theorem walkPath_cuts (hcap : ∀ a, toStop s.queue = some a → d + s.exe.progress ≤ a) :
    walkPath s.ticked = afterWalk s.ticked (clearStuck (walkForward .cut d s.ticked)) := by
  have hform' : formStep s.ticked.gap.last (s.ticked.condition e.cond) s.ticked.gen.level = .forward d := by
    rw [ticked_level]
    exact hform
  rw [walkPath_cut (u := s.ticked) hcur hrd hq (isPath_of_line he) hdry ha hform',
    capStep_free (u := s.ticked) hcur hs hcap]

theorem cuts_within (hb : s.history.length ≤ 32) (h : s.exe.progress + d < e.length) :
    s.walksTo s.seq.aged (s.exe.on e (s.exe.progress + d)) s.queue s.history s.fetch := by
  have hwalk := walkPath_cuts hs hcur hrd hq he ha hdry hform fun a hstop => by
    rw [hq] at hstop
    have := toStop_head (isPath_of_line he) hstop
    omega
  have hst : walkQueue .cut s.queue s.exe.progress d [] = ⟨0, s.exe.progress + d, e :: rest, [], 0⟩ := by
    rw [hq]
    exact walkQueue_within (isPath_of_line he) (show d < e.length - s.exe.progress by omega)
  have := walksTo_line hrun hs hcalm htask hcur hrd hseek (Nat.ne_of_gt hd) hwalk hst he (.inl (by omega))
    (fun h => by rw [ha] at h; exact Activity.noConfusion (Option.some.inj h))
  rwa [if_pos rfl, List.nil_append, List.take_of_length_le hb, ← hq] at this

theorem cuts_past (hrest : rest = []) (hk : s.exe.progress < e.length) (h : e.length ≤ s.exe.progress + d) :
    s.walksTo s.seq.aged (s.exe.past e) [] (e :: s.history.take 31) s.fetch.refilled := by
  subst hrest
  have hwalk := walkPath_cuts hs hcur hrd hq he ha hdry hform fun a hstop => by
    rw [hq, toStop_cons (isPath_of_line he)] at hstop
    exact absurd hstop nofun
  have hst := walkQueue_last (g := .cut) (done := []) (isPath_of_line he)
    (show e.length - s.exe.progress ≤ d by omega) rfl
  exact walksTo_past hrun hs hcalm htask hcur hrd hseek (Nat.ne_of_gt hd) hwalk (by rw [hq]; exact hst) hq

theorem cuts_into (hrest : rest = next :: more) (hn : next.kind = .line) (hk : s.exe.progress < e.length)
    (h : e.length ≤ s.exe.progress + d) (hleft : s.exe.progress + d - e.length < next.length) :
    s.walksTo s.seq.aged
      (s.exe.on next (if next.dry = 0 ∧ next.cond = e.cond then s.exe.progress + d - e.length else 0))
      rest (e :: s.history.take 31) s.fetch.refilled := by
  subst hrest
  have hwalk := walkPath_cuts hs hcur hrd hq he ha hdry hform fun a hstop => by
    rw [hq] at hstop
    have := toStop_next (isPath_of_line he) (isPath_of_line hn) hstop
    omega
  have hst : ∃ l, walkQueue .cut s.queue s.exe.progress d [] =
      ⟨0, if next.dry = 0 ∧ next.cond = e.cond then s.exe.progress + d - e.length else 0, next :: more, [e], l⟩ := by
    rw [hq, walkQueue_over (isPath_of_line he) (show e.length - s.exe.progress ≤ d by omega) rfl]
    have hcarry : Gait.cut.carries e next = true ↔ next.dry = 0 ∧ next.cond = e.cond := by
      simp [Gait.carries, isPath_of_line hn]
    by_cases hc : next.dry = 0 ∧ next.cond = e.cond
    · rw [if_pos hc, if_pos (hcarry.2 hc),
        walkQueue_within (isPath_of_line hn) (show d - (e.length - s.exe.progress) < next.length - 0 by omega)]
      exact ⟨0, by congr 1; show 0 + (d - (e.length - s.exe.progress)) = _; omega⟩
    · rw [if_neg hc, if_neg (fun h => hc (hcarry.1 h))]
      exact ⟨_, rfl⟩
  obtain ⟨l, hst⟩ := hst
  exact walksTo_line hrun hs hcalm htask hcur hrd hseek (Nat.ne_of_gt hd) hwalk hst hn
    (.inr (by rw [hq]; exact Nat.lt_succ_self _))
    (fun h => by rw [ha] at h; exact Activity.noConfusion (Option.some.inj h))

end

/-! ### A dry walk (R104, R105) -/

section
variable (hdry : s.exe.progress < e.dry)
include hdry

omit hrun hs hcalm htask hseek in
theorem walkPath_walksDry :
    walkPath s.ticked =
      afterWalk s.ticked (clearStuck (walkForward .dry (capStep s.ticked s.setup.dry) s.ticked)) :=
  walkPath_dry (u := s.ticked) hcur hrd hq (isPath_of_line he) hdry

theorem walksDry_within (hb : s.history.length ≤ 32) (hle : e.dry ≤ e.length) (hpos : 0 < s.setup.dry)
    (h : s.exe.progress + s.setup.dry < e.dry) :
    s.walksTo s.seq.aged (s.exe.on e (s.exe.progress + s.setup.dry)) s.queue s.history s.fetch := by
  have hcap : capStep s.ticked s.setup.dry = s.setup.dry := capStep_free (u := s.ticked) hcur hs fun a hstop => by
    rw [show s.ticked.queue = e :: rest from hq] at hstop
    have := toStop_head (isPath_of_line he) hstop
    show s.setup.dry + s.exe.progress ≤ a
    omega
  have hwalk := walkPath_walksDry hcur hrd hq he hdry
  rw [hcap] at hwalk
  have hst : walkQueue .dry s.queue s.exe.progress s.setup.dry [] =
      ⟨0, s.exe.progress + s.setup.dry, e :: rest, [], 0⟩ := by
    rw [hq]
    exact walkQueue_within (isPath_of_line he) (show s.setup.dry < e.dry - s.exe.progress by omega)
  have := walksTo_line hrun hs hcalm htask hcur hrd hseek (Nat.ne_of_gt hpos) hwalk hst he (.inl (by omega))
    (fun _ => h)
  rwa [if_pos rfl, List.nil_append, List.take_of_length_le hb, ← hq] at this

theorem walksDry_to_cut (hb : s.history.length ≤ 32) (hle : e.dry ≤ s.exe.progress + s.setup.dry)
    (hlen : e.dry < e.length) (ha : s.seq.activity = some .recovering) (hp : s.seq.current = some p) :
    s.walksTo { s.seq.aged.noRecovery with
                activity := some (if (s.part p).pass = some .separation then .separating else .cutting) }
      (s.exe.on e e.dry) s.queue s.history s.fetch := by
  have hcap : e.dry - s.exe.progress ≤ capStep s.ticked s.setup.dry :=
    le_capStep (u := s.ticked) hcur hs (by omega) fun a hstop => by
      rw [show s.ticked.queue = e :: rest from hq] at hstop
      have := toStop_head (isPath_of_line he) hstop
      show e.dry - s.exe.progress + s.exe.progress ≤ a
      omega
  have hst := walkQueue_reach (g := .dry) (rest := rest) (done := []) (isPath_of_line he) hcap hlen
  rw [show max s.exe.progress (Gait.dry.reach e) = e.dry from Nat.max_eq_right (Nat.le_of_lt hdry)] at hst
  have := walksTo_line_target hrun hs hcalm htask hcur hrd hseek (by omega) (walkPath_walksDry hcur hrd hq he hdry)
    (by rw [hq]; exact hst) he (.inl (Nat.ne_of_gt hdry)) hp ha (Nat.le_refl _)
  rwa [if_pos rfl, List.nil_append, List.take_of_length_le hb, ← hq] at this

section
variable (hall : e.dry = e.length) (hover : e.length ≤ s.exe.progress + s.setup.dry)
include hall hover

omit hrun hcalm htask hrd hseek in
theorem capStep_dry_ne_zero : capStep s.ticked s.setup.dry ≠ 0 := by
  have hcap : 1 ≤ capStep s.ticked s.setup.dry :=
    le_capStep (u := s.ticked) hcur hs (by omega) fun a hstop => by
      rw [show s.ticked.queue = e :: rest from hq] at hstop
      have := toStop_head (isPath_of_line he) hstop
      show 1 + s.exe.progress ≤ a
      omega
  omega

theorem walksDry_past (hrest : rest = []) :
    s.walksTo s.seq.aged (s.exe.past e) [] (e :: s.history.take 31) s.fetch.refilled := by
  subst hrest
  have hcap : e.length - s.exe.progress ≤ capStep s.ticked s.setup.dry :=
    le_capStep (u := s.ticked) hcur hs (by omega) fun a hstop => by
      rw [show s.ticked.queue = [e] from hq, toStop_cons (isPath_of_line he)] at hstop
      exact absurd hstop nofun
  have hst := walkQueue_last (g := .dry) (done := []) (isPath_of_line he)
    (show e.dry - s.exe.progress ≤ capStep s.ticked s.setup.dry by omega) hall
  exact walksTo_past hrun hs hcalm htask hcur hrd hseek (by omega) (walkPath_walksDry hcur hrd hq he hdry)
    (by rw [hq]; exact hst) hq

/-- The rest of a dry walk ends inside the next dry length. -/
theorem walksDry_into (hrest : rest = next :: more) (hn : next.kind = .line) (hle : next.dry ≤ next.length)
    (hleft : s.exe.progress + s.setup.dry - e.length < next.dry) :
    s.walksTo s.seq.aged (s.exe.on next (s.exe.progress + s.setup.dry - e.length)) rest
      (e :: s.history.take 31) s.fetch.refilled := by
  subst hrest
  have hcap : capStep s.ticked s.setup.dry = s.setup.dry := capStep_free (u := s.ticked) hcur hs fun a hstop => by
    rw [show s.ticked.queue = e :: next :: more from hq] at hstop
    have := toStop_next (isPath_of_line he) (isPath_of_line hn) hstop
    show s.setup.dry + s.exe.progress ≤ a
    omega
  have hwalk := walkPath_walksDry hcur hrd hq he hdry
  rw [hcap] at hwalk
  have hcarry : Gait.dry.carries e next = true := by simp [Gait.carries, isPath_of_line hn]; omega
  have hst : walkQueue .dry s.queue s.exe.progress s.setup.dry [] =
      ⟨0, s.exe.progress + s.setup.dry - e.length, next :: more, [e], 0⟩ := by
    rw [hq, walkQueue_over (g := .dry) (isPath_of_line he)
        (show e.dry - s.exe.progress ≤ s.setup.dry by omega) hall, if_pos hcarry,
      walkQueue_within (isPath_of_line hn)
        (show s.setup.dry - (e.dry - s.exe.progress) < next.dry - 0 by omega)]
    congr 1
    show 0 + (s.setup.dry - (e.dry - s.exe.progress)) = _
    omega
  exact walksTo_line hrun hs hcalm htask hcur hrd hseek (by omega) hwalk hst hn
    (.inr (by rw [hq]; exact Nat.lt_succ_self _)) (fun _ => hleft)

section
variable (hrest : rest = next :: more) (hn : next.kind = .line)
  (hle : next.dry ≤ s.exe.progress + s.setup.dry - e.length) (hlen : next.dry < next.length)
include hrest hn hle hlen

omit hrun hcalm htask hrd hseek in
/-- The rest of a dry walk reaches the first cut point of the next segment and no further. -/
theorem walkQueue_dry_to_cut : ∃ l, walkQueue .dry s.queue s.exe.progress (capStep s.ticked s.setup.dry) [] =
    ⟨0, next.dry, next :: more, [e], l⟩ := by
  subst hrest
  have hcap : e.length + next.dry - s.exe.progress ≤ capStep s.ticked s.setup.dry :=
    le_capStep (u := s.ticked) hcur hs (by omega) fun a hstop => by
      rw [show s.ticked.queue = e :: next :: more from hq] at hstop
      have := toStop_next (isPath_of_line he) (isPath_of_line hn) hstop
      show e.length + next.dry - s.exe.progress + s.exe.progress ≤ a
      omega
  rw [hq, walkQueue_over (g := .dry) (isPath_of_line he)
    (show e.dry - s.exe.progress ≤ capStep s.ticked s.setup.dry by omega) hall]
  by_cases hzero : next.dry = 0
  · rw [if_neg (by simp [Gait.carries, hzero]), hzero]
    exact ⟨_, rfl⟩
  · have hcarry : Gait.dry.carries e next = true := by simp [Gait.carries, isPath_of_line hn]; omega
    have hreach : Gait.dry.reach next - 0 ≤ capStep s.ticked s.setup.dry - (Gait.dry.reach e - s.exe.progress) := by
      show next.dry - 0 ≤ _ - (e.dry - s.exe.progress)
      omega
    rw [if_pos hcarry, walkQueue_reach (g := .dry) (isPath_of_line hn) hreach hlen]
    exact ⟨_, by rw [show max 0 (Gait.dry.reach next) = next.dry from Nat.zero_max _]⟩

theorem walksDry_onto_cut (ha : s.seq.activity ≠ some .recovering) :
    s.walksTo s.seq.aged (s.exe.on next next.dry) rest (e :: s.history.take 31) s.fetch.refilled := by
  obtain ⟨l, hst⟩ := walkQueue_dry_to_cut hs hcur hq he hdry hall hover hrest hn hle hlen
  rw [hrest]
  exact walksTo_line hrun hs hcalm htask hcur hrd hseek (capStep_dry_ne_zero hs hcur hq he hdry hall hover)
    (walkPath_walksDry hcur hrd hq he hdry) hst hn (.inr (by rw [hq, hrest]; exact Nat.lt_succ_self _))
    (fun h => absurd h ha)

theorem walksDry_onto_target (ha : s.seq.activity = some .recovering) (hp : s.seq.current = some p) :
    s.walksTo { s.seq.aged.noRecovery with
                activity := some (if (s.part p).pass = some .separation then .separating else .cutting) }
      (s.exe.on next next.dry) rest (e :: s.history.take 31) s.fetch.refilled := by
  obtain ⟨l, hst⟩ := walkQueue_dry_to_cut hs hcur hq he hdry hall hover hrest hn hle hlen
  rw [hrest]
  exact walksTo_line_target hrun hs hcalm htask hcur hrd hseek (capStep_dry_ne_zero hs hcur hq he hdry hall hover)
    (walkPath_walksDry hcur hrd hq he hdry) hst hn (.inr (by rw [hq, hrest]; exact Nat.lt_succ_self _))
    hp ha (Nat.le_refl _)

end

end

end

end

end

/-! ### A seek walk (R141) -/

theorem seekWalk_eq {point : PathPoint}
    (hcap : capStep u (min (pathAhead u.queue) (toPoint point u.queue) - u.exe.progress) = d)
    (hwalk : clearStuck (walkForward .seek d u) = v) :
    seekWalk point u =
      afterWalk u (if (v.exe.front.map fun f => !f.before point).getD false then
        setStep .replay (v.modExe fun x => { x with seek := none }) else v) := by
  rw [seekWalk, hcap, hwalk]

theorem before_self (g : PathPoint) : g.before g = false := by simp [PathPoint.before]

section
variable {point : PathPoint} (hrun : s.seq.station = .run) (hs : s.seq.skipOwed = false) (hcalm : s.calm)
  (htask : s.exe.task = .path) (hcur : s.exe.cursor = 0) (hrd : s.exe.rd = 0) (hseek : s.exe.seek = some point)
  (hq : s.queue = e :: rest) (he : e.kind = .line) (hk : s.exe.progress < e.length)
include hrun hs hcalm htask hcur hrd hseek hq he hk

omit hcalm hs hcur hrd hq he hk in
theorem motion_seeks : motion s.ticked = targetCheck (seekWalk point s.ticked) := by
  rw [motion_path hrun htask, advancePath, show s.ticked.exe.seek = some point from hseek]

/-- A seek walk to the end of what the queue holds, with the seek point beyond it. -/
theorem seeks_past (hrest : rest = []) (hbefore : (⟨e.pass, e.ordinal + 1, 0⟩ : PathPoint).before point = true)
    (hord : e.ordinal < point.ordinal) :
    s.walksTo s.seq.aged { s.exe with progress := 0, front := some ⟨e.pass, e.ordinal + 1, 0⟩ } []
      (e :: s.history.take 31) s.fetch.refilled := by
  subst hrest
  have hahead : min (pathAhead s.queue) (toPoint point s.queue) - s.exe.progress = e.length - s.exe.progress := by
    rw [hq]
    simp [pathAhead, toPoint, isPath_of_line he, hord]
  have hcap : capStep s.ticked (e.length - s.exe.progress) = e.length - s.exe.progress :=
    capStep_free (u := s.ticked) hcur hs fun a hstop => by
      rw [show s.ticked.queue = [e] from hq, toStop_cons (isPath_of_line he)] at hstop
      exact absurd hstop nofun
  have hst := walkQueue_last (g := .seek) (done := []) (isPath_of_line he)
    (show e.length - s.exe.progress ≤ e.length - s.exe.progress from Nat.le_refl _) rfl
  have hwalk := walkForward_strode (u := s.ticked) (d := e.length - s.exe.progress) hcur hrd (by omega)
    ((congrArg (walkQueue .seek · s.exe.progress _ []) hq).trans hst) rfl
  have hwalked : seekWalk point s.ticked =
      (s.ticked.strode ⟨0, 0, [], [e], e.length - s.exe.progress - (e.length - s.exe.progress)⟩ s.exe.position,
        none) := by
    rw [seekWalk_eq (u := s.ticked) (d := e.length - s.exe.progress) (by rw [← hcap]; exact congrArg _ hahead) hwalk,
      if_neg (by simp [State.strode, frontAfter, hbefore]), afterWalk_free (by exact hs),
      takeHead_path (fun h hh => by cases hh)]
    rfl
  refine walksTo_stays hrun hcalm ((motion_seeks hrun htask hseek).trans ((congrArg targetCheck hwalked).trans
    ((targetCheck_passes (u := s.ticked.strode _ _) fun ⟨_, hnone, _⟩ =>
      absurd (hseek.symm.trans hnone) nofun).trans rfl))) rfl rfl

section
variable (hpass : point.pass = e.pass) (hord : point.ordinal = e.ordinal) (hfar : s.exe.progress < point.progress)
  (hnear : point.progress < e.length)
include hpass hord hfar hnear

omit hcalm in
theorem motion_seeks_there (hhist : s.history.length ≤ 32) :
    motion s.ticked =
      targetCheck ({ s.ticked with
        seq := { s.seq.aged with step := some .replay }
        exe := { s.exe with progress := point.progress, front := some point, seek := none, stuck := 0 } }, none) := by
  have hahead : min (pathAhead s.queue) (toPoint point s.queue) - s.exe.progress =
      point.progress - s.exe.progress := by
    rw [hq]
    simp only [pathAhead, toPoint, isPath_of_line he, hord, Bool.not_true, Bool.false_eq_true, if_false, if_true,
      Nat.lt_irrefl]
    omega
  have hcap : capStep s.ticked (point.progress - s.exe.progress) = point.progress - s.exe.progress :=
    capStep_free (u := s.ticked) hcur hs fun a hstop => by
      rw [show s.ticked.queue = e :: rest from hq] at hstop
      have := toStop_head (isPath_of_line he) hstop
      show point.progress - s.exe.progress + s.exe.progress ≤ a
      omega
  have hst := walkQueue_within (g := .seek) (rest := rest) (done := []) (isPath_of_line he)
    (show point.progress - s.exe.progress < e.length - s.exe.progress by omega)
  rw [Nat.add_sub_cancel' (Nat.le_of_lt hfar)] at hst
  have hwalk := walkForward_strode (u := s.ticked) (d := point.progress - s.exe.progress) hcur hrd (by omega)
    ((congrArg (walkQueue .seek · s.exe.progress _ []) hq).trans hst) rfl
  have hfront : ∀ x, frontAfter ⟨0, point.progress, e :: rest, [], 0⟩ x = some point := fun x => by
    show some (⟨e.pass, e.ordinal, point.progress⟩ : PathPoint) = some point
    rw [← hpass, ← hord]
  have hpath : ∀ h ∈ (e :: rest).head?, h.isPath = true := fun h hh => by
    obtain rfl := Option.some.inj hh
    exact isPath_of_line he
  rw [motion_seeks hrun htask hseek,
    seekWalk_eq (u := s.ticked) (d := point.progress - s.exe.progress) (by rw [← hcap]; exact congrArg _ hahead) hwalk,
    if_pos (by simp [State.strode, hfront, before_self]), afterWalk_free (by exact hs),
    takeHead_path (by exact hpath)]
  rw [strode_within (u := s.ticked) hhist hq, hfront]
  rfl

theorem seeks_to_replay (hhist : s.history.length ≤ 32) (hdry : point.progress < e.dry) :
    s.walksTo { s.seq.aged with step := some .replay }
      { s.exe with progress := point.progress, front := some point, seek := none } s.queue s.history s.fetch := by
  refine walksTo_stays hrun hcalm ((motion_seeks_there hrun hs htask hcur hrd hseek hq he hk hpass hord hfar hnear
    hhist).trans (targetCheck_passes fun h => ?_)) rfl rfl
  obtain ⟨-, -, hd⟩ := h
  have hlt := hd.symm.trans (workingDry_head (e := e) (rest := rest) hcur hq (isPath_of_line he))
  exact of_decide_eq_false (Option.some.inj hlt).symm hdry

theorem seeks_to_target (hhist : s.history.length ≤ 32) (hp : s.seq.current = some p)
    (ha : s.seq.activity = some .recovering) (hdry : e.dry ≤ point.progress) :
    s.walksTo { s.seq.aged.noRecovery with
                activity := some (if (s.part p).pass = some .separation then .separating else .cutting) }
      { s.exe with progress := point.progress, front := some point, seek := none } s.queue s.history s.fetch := by
  refine walksTo_target (seq := { s.seq.aged with step := some .replay }) hrun hcalm hp ha
    ((motion_seeks_there hrun hs htask hcur hrd hseek hq he hk hpass hord hfar hnear hhist).trans
      (targetCheck_reached ha rfl ?_)) rfl
  refine Eq.trans (workingDry_head (e := e) (rest := rest) ?_ ?_ (isPath_of_line he)) ?_
  · exact hcur
  · exact hq
  · exact congrArg some (decide_eq_false (Nat.not_lt.2 hdry))

end

end

end Sys2Proof.Machine

open Sys2Proof Sys2Proof.Machine

/-- Settles O37: each form of the step has its stride along the queue, and the expiry leaves what that stride writes;
where the walk reaches the first cut point of a recovery, the Sequencer is handed the target. -/
theorem forwardStepWalksTheLine : Obligations.ForwardStepWalksTheLine := by
  unfold Obligations.ForwardStepWalksTheLine
  intro s e rest hrun hs hcalm hb htask hcur hrd hq he walked on_ ends refilled
  obtain ⟨-, hhist, -, -⟩ := hb
  refine ⟨fun d ha hseek hdry hform hd => ⟨fun h => ?_, fun hrest hk h => ?_, fun next more hrest hn hk h hleft => ?_⟩,
    fun hseek hall hk hover => ?_, fun hseek hk hle hpos => ⟨fun h => ?_, fun p h hlen ha hp => ?_⟩,
    fun point hseek hk => ⟨fun hrest hbefore hord => ?_,
      fun p hp ha hpass hord hfar hnear => ⟨fun h => ?_, fun h => ?_⟩⟩⟩
  · exact cuts_within hrun hs hcalm htask hcur hrd hseek hq he ha hdry hform hd hhist h
  · exact cuts_past hrun hs hcalm htask hcur hrd hseek hq he ha hdry hform hd hrest hk h
  · exact cuts_into hrun hs hcalm htask hcur hrd hseek hq he ha hdry hform hd hrest hn hk h hleft
  · have hdry : s.exe.progress < e.dry := by rw [hall]; exact hk
    refine ⟨fun hrest => ?_, fun next more hrest hn => ⟨fun hle hleft => ?_, fun hle hlen ha => ?_,
      fun p hle hlen ha hp => ?_⟩⟩
    · exact walksDry_past hrun hs hcalm htask hcur hrd hseek hq he hdry hall hover hrest
    · exact walksDry_into hrun hs hcalm htask hcur hrd hseek hq he hdry hall hover hrest hn hle hleft
    · exact walksDry_onto_cut hrun hs hcalm htask hcur hrd hseek hq he hdry hall hover hrest hn hle hlen ha
    · exact walksDry_onto_target hrun hs hcalm htask hcur hrd hseek hq he hdry hall hover hrest hn hle hlen ha hp
  · exact walksDry_within hrun hs hcalm htask hcur hrd hseek hq he hk hhist hle hpos h
  · exact walksDry_to_cut hrun hs hcalm htask hcur hrd hseek hq he hk hhist h hlen ha hp
  · exact seeks_past hrun hs hcalm htask hcur hrd hseek hq he hk hrest hbefore hord
  · exact seeks_to_replay hrun hs hcalm htask hcur hrd hseek hq he hk hpass hord hfar hnear hhist h
  · exact seeks_to_target hrun hs hcalm htask hcur hrd hseek hq he hk hpass hord hfar hnear hhist hp ha h
end

section
/-! STOP and FAULT entries taken at an expiry (R26, R28, R30, R52, R57, R76, R103, R144, R146): O60. -/

namespace Sys2Proof.Machine

variable {s u v w : State} {p : PartNo} {e : Entry} {tab : Bool}

/-! ### The entry at the head is taken (R76, R103) -/

/-- The position of the last segment completed, where there is one (R97). -/
def State.lastStop (s : State) : Point := (s.history.head?.map Entry.stop).getD s.exe.position

/-- The Cut Executor at a STOP entry. -/
def Executor.stopped (x : Executor) (e : Entry) (position : Point) : Executor :=
  { x with task := .off, front := some ⟨e.pass, e.ordinal, 0⟩, position := position }

theorem removalSeen_free (h : u.fetch.state ≠ .full) : removalSeen u = u := by
  rw [removalSeen, State.modFetch, if_neg h]

theorem writeSetpoints_nowhere (hcur : u.exe.cursor = 0) (hq : u.queue = []) (hh : u.history = []) :
    writeSetpoints u = u := by
  have hseg : u.workingSegment = none := by simp [State.workingSegment, hcur, hq]
  rw [writeSetpoints, hseg, hh]

theorem writeSetpoints_end (hcur : u.exe.cursor = 0) (hq : u.queue = []) :
    writeSetpoints u = { u with exe := { u.exe with position := u.lastStop } } := by
  rcases hh : u.history with - | ⟨h, more⟩
  · have hlast : u.lastStop = u.exe.position := by rw [State.lastStop, hh]; rfl
    rw [writeSetpoints_nowhere hcur hq hh, hlast, ← hh]
  · rw [writeSetpoints_past hcur hq hh, State.lastStop, hh]
    rfl

section
variable (hcur : u.exe.cursor = 0) (hseek : u.exe.seek = none) (hq : u.queue = [e])
include hcur hseek hq

omit hseek in
theorem walkPath_end (he : e.isPath = false) : walkPath u = takeHead u := by
  have hseg : u.workingSegment = none := by simp [State.workingSegment, hcur, hq, he]
  rw [walkPath, hseg]

theorem advancePath_stop (hfetch : u.fetch.state ≠ .full) (hk : e.kind = if tab then .stopTab else .stopEnd) :
    advancePath u =
      ({ u with queue := [], exe := u.exe.stopped e u.lastStop }, some (.stop tab e.stop e.cond)) := by
  have hpath : e.isPath = false := by rw [Entry.isPath, hk]; cases tab <;> rfl
  have htake : takeHead u =
      ({ u with queue := [], exe := u.exe.stopped e u.exe.position }, some (.stop tab e.stop e.cond)) := by
    rw [takeHead, hq]
    dsimp only
    rw [if_pos hcur, removalSeen_free (by exact hfetch), hk]
    cases tab <;> rw [Executor.stopped, ← hseek] <;> rfl
  rw [advancePath, hseek]
  dsimp only
  rw [walkPath_end hcur hq hpath, htake]
  dsimp only
  rw [if_pos (.inr (.inr (by rw [hq]; exact Nat.zero_lt_one))), writeSetpoints_end (by exact hcur) rfl]
  rfl

theorem advancePath_fault {c : FetchFault} (hk : e.kind = .fault c) :
    advancePath u = (endTask u, some (.fault c)) := by
  have hpath : e.isPath = false := by rw [Entry.isPath, hk]
  have htake : takeHead u = (endTask u, some (.fault c)) := by
    rw [takeHead, hq]
    dsimp only
    rw [if_pos hcur, hk, ← hseek]
    rfl
  rw [advancePath, hseek]
  dsimp only
  rw [walkPath_end hcur hq hpath, htake]
  dsimp only
  rw [if_neg]
  · rfl
  · rintro (h | h | h)
    · exact h rfl
    · exact h rfl
    · exact Nat.lt_irrefl _ h

end

/-- A part being worked skipped in RUN: the flush, the outcome and the wire cut (R38). -/
theorem skipWorked_run {r : PartRecord} (hcur : u.seq.current = some p) (hrun : u.seq.station = .run)
    (hthr : u.thr.request = .off) (hc : u.filters.cutterDone.level = .clear) (hr : u.part p = r) (c : Cause) :
    skipWorked p c u =
      { u.reported p (some c) (r.final .skipped (some c)) with
        queue := [], history := [], fetch := Fetcher.flushed, exe := u.exe.cleared
        seq := { u.seq.ended .run with activity := some .wireCutting, owed := u.seq.owed, window := u.seq.window }
        thr := u.thr.severing, filters := u.filters.cutTip } := by
  subst hr
  rw [skipWorked, flush_eq, finishAndCut_run (by exact hcur) (by exact hrun) (by exact hthr) (by exact hc)]
  rfl

/-! ### What the Sequencer does with a stop (R26, R28, R30, R146) -/

/-- The Sequencer after a recovery that ends at the stop. -/
def Sequencer.recovered (q : Sequencer) : Sequencer := if q.activity = some .recovering then q.noRecovery else q

section
variable (hcur : w.seq.current = some p)
include hcur

/-- A stop of a pass that is not the last starts the next pass there. -/
theorem stopTaken_next {next : Pass} {i : PathIndex} {c k : CondNo} {at_ : Point}
    (hnext : (w.part p).nextPass = some next) (hi : (w.part p).contour.get next = some i.val)
    (hc : (w.part p).initial.get next = some c.val) :
    stopTaken tab at_ k w =
      startPass p next i at_ c (if w.seq.activity = some .recovering then (w.part p).breakPoint else none) none w := by
  rw [stopTaken, hcur]
  dsimp only
  rw [hnext]
  dsimp only
  rw [startContour_eq hi hc]
  simp only [beq_iff_eq]

/-- The state in which the last pass has been stopped: a recovery has ended. -/
def State.passEnded (p : PartNo) (w : State) : State :=
  if w.seq.activity = some .recovering then endRecovery p w else w

theorem stopTaken_last {k : CondNo} {at_ : Point} (hnext : (w.part p).nextPass = none) :
    stopTaken tab at_ k w =
      if tab then beginCut false (modPart p (fun r => { r with
        tab := some ⟨at_, (w.passEnded p).fetch.position.getD 0, k⟩ }) (w.passEnded p))
      else openWindow p (w.passEnded p) := by
  rw [stopTaken, hcur]
  dsimp only
  rw [hnext]
  simp only [beq_iff_eq]
  rfl

end

theorem passEnded_rest (p : PartNo) (w : State) :
    w.passEnded p = { w with nest := (w.passEnded p).nest, seq := w.seq.recovered } := by
  rw [State.passEnded, Sequencer.recovered]
  split <;> rfl

theorem passEnded_part_ne {q : PartNo} (h : q ≠ p) (w : State) : (w.passEnded p).part q = w.part q := by
  rw [State.passEnded]
  split
  · exact modPart_part_ne h (fun r => { r with breakPoint := none }) w
  · rfl

theorem passEnded_part_self (p : PartNo) (w : State) :
    (w.passEnded p).part p =
      { w.part p with
        breakPoint := if w.seq.activity = some .recovering then none else (w.part p).breakPoint } := by
  rw [State.passEnded]
  split
  · exact modPart_part_self p (fun r => { r with breakPoint := none }) w
  · rfl

/-- The drop window opened, with the PART report of a part that was ACTIVE (R30). -/
theorem openWindow_eq (hs : u.seq.skipOwed = false) :
    openWindow p u =
      { modPart p (fun r => { r with state := .separating, stage := .window }) u with
        seq := { u.seq with activity := some .dropWatch, window := some u.setup.dropTime }
        reports := if (u.part p).state = .separating then u.reports
                   else (queueReport .part (some p) none (4 + 256 * passCode (u.part p).pass) u).reports } := by
  rw [openWindow]
  dsimp only
  rw [partReport_modPart]
  split
  all_goals
    rw [atBoundary_next (by exact hs)]
    rfl

/-! ### The expiry that ends a pass -/

/-- The state that the Sequencer finds after the motion, block by block. -/
theorem periodEnd_exists (hn : v.nest = s.nest) (hc : v.seq.current = s.seq.current) :
    ∃ n g m, s.periodEnd v = { v with nest := n, gen := g, gap := m } ∧
      ∀ q, ({ v with nest := n, gen := g, gap := m } : State).part q = s.credited v.exe.front q :=
  ⟨_, _, _, periodEnd_rest s v, fun q => by rw [← periodEnd_rest]; exact periodEnd_part hn hc q⟩

/-- An expiry that ends in the state `x`, but for what follows from others, with one part's record written. -/
def State.expiresTo (s : State) (p : PartNo) (x : State) (r : PartRecord) : Prop :=
  ∃ t, exec .servoPeriodExpiry s = .next t ∧
    t = { x with gap := t.gap, gen := t.gen, coord := t.coord, port := t.port, now := s.now + 1, nest := t.nest } ∧
    (∀ q, q ≠ p → t.part q = s.part q) ∧ t.part p = r

theorem servo_leaves {h : Option HandOver} {x : State} {r : PartRecord} (hrun : s.seq.station = .run)
    (hm : motion s.ticked = (v, h)) (hw : s.periodEnd v = w) (hu : handOver h w = u) (hcalm : u.calm)
    (hx : u = { x with gap := u.gap, gen := u.gen, coord := u.coord, port := u.port, now := s.now + 1, nest := u.nest })
    (hne : ∀ q, q ≠ p → u.part q = s.part q) (hself : u.part p = r) : s.expiresTo p x r := by
  obtain ⟨t, ht, hset⟩ := servo_ends (by rw [hrun]; exact Station.noConfusion) hm (by rw [hw]; exact hu) hcalm
  refine ⟨t, ht, ?_, fun q hq => (settles_part hset q).trans (hne q hq), (settles_part hset p).trans hself⟩
  obtain ⟨hrest, -⟩ := hset
  rw [hrest, hx]

theorem credited_ne (hcur : s.seq.current = some p) {q : PartNo} (h : q ≠ p) (f : Option PathPoint) :
    s.credited f q = s.part q :=
  credited_other (by rw [hcur]; exact fun hq => h (Option.some.inj hq)) f

theorem next_ne_separation {a b : Pass} (h : a.next = some b) : b ≠ .separation := by
  rintro rfl
  cases a <;> exact nomatch h

/-- The state after the motion to a stop. -/
def State.atStop (s : State) (e : Entry) : State :=
  { s.ticked with queue := [], exe := s.exe.stopped e s.lastStop }

/-- The part's record at the stop of its last pass, before what the stop itself writes. -/
def State.creditedAt (s : State) (e : Entry) (p : PartNo) : PartRecord :=
  { s.credited (some ⟨e.pass, e.ordinal, 0⟩) p with
    breakPoint := if s.seq.activity = some .recovering then none else (s.part p).breakPoint }

/-- The state in which a last pass has been stopped, block by block. -/
theorem passEnded_exists (hcur : s.seq.current = some p) (e : Entry) :
    ∃ n g m, (s.periodEnd (s.atStop e)).passEnded p =
        { s.atStop e with seq := s.seq.aged.recovered, nest := n, gen := g, gap := m } ∧
      (∀ q, q ≠ p → ((s.periodEnd (s.atStop e)).passEnded p).part q = s.part q) ∧
      ((s.periodEnd (s.atStop e)).passEnded p).part p = s.creditedAt e p := by
  obtain ⟨n, g, m, hw, hpart⟩ := periodEnd_exists (s := s) (v := s.atStop e) rfl rfl
  rw [hw]
  refine ⟨_, g, m, passEnded_rest p _, fun q hq => ?_, ?_⟩
  · rw [passEnded_part_ne hq, hpart, credited_ne hcur hq]
  · rw [passEnded_part_self, hpart, credited_breakPoint]
    rfl

section
variable (hrun : s.seq.station = .run) (hs : s.seq.skipOwed = false) (hcalm : s.calm) (htask : s.exe.task = .path)
  (hseek : s.exe.seek = none) (hcursor : s.exe.cursor = 0) (hq : s.queue = [e]) (hcur : s.seq.current = some p)
include hrun hcalm htask hseek hcursor hq hcur

section
variable (hfetch : s.fetch.state ≠ .full) (hk : e.kind = if tab then .stopTab else .stopEnd)
include hfetch hk

omit hcalm hcur in
theorem motion_stop :
    motion s.ticked =
      (s.atStop e, some (.stop tab e.stop e.cond)) :=
  (motion_path hrun htask).trans (advancePath_stop (u := s.ticked) hcursor hseek hq hfetch hk)

theorem stop_starts_next {pass next : Pass} {i : PathIndex} {c : CondNo} (hpass : (s.part p).pass = some pass)
    (hnext : pass.next = some next) (hcount : pass.code < (s.part p).passCount)
    (hi : (s.part p).contour.get next = some i.val) (hc : (s.part p).initial.get next = some c.val) :
    s.expiresTo p
      { s with
        seq := { s.seq.aged with passStart := some e.stop }, thr := s.thr.aged, queue := [], history := []
        fetch := Fetcher.atStart p next i e.stop c
          (if s.seq.activity = some .recovering then
            (s.part p).breakPoint.filter fun g => next.code ≤ g.pass.code else none)
        exe := { s.exe.atStart next none with position := s.lastStop } }
      { s.credited (some ⟨e.pass, e.ordinal, 0⟩) p with pass := some next } := by
  obtain ⟨n, g, m, hw, hpart⟩ := periodEnd_exists (s := s)
    (v := s.atStop e) rfl rfl
  generalize hW : ({ s.atStop e with nest := n, gen := g, gap := m } : State) = w at hw hpart
  have hself := hpart p
  have hstop : stopTaken tab e.stop e.cond w = startPass p next i e.stop c
      (if s.seq.activity = some .recovering then (s.part p).breakPoint else none) none w := by
    rw [stopTaken_next (next := next) (i := i) (c := c) (by rw [← hW]; exact hcur)
      (by rw [hself, credited_rest, PartRecord.nextPass]; simp only [hpass, if_pos hcount, hnext])
      (by rw [hself, credited_rest]; exact hi) (by rw [hself, credited_rest]; exact hc), hself, credited_breakPoint,
      show w.seq.activity = s.seq.activity by rw [← hW]; rfl]
  have htarget : carriedTarget next (if s.seq.activity = some .recovering then (s.part p).breakPoint else none) =
      if s.seq.activity = some .recovering then
        (s.part p).breakPoint.filter fun g => next.code ≤ g.pass.code else none := by
    split <;> rfl
  have hseq : w.seq.atStart next e.stop = { s.seq.aged with passStart := some e.stop } := by
    rw [← hW]
    exact if_neg (next_ne_separation hnext)
  rw [startPass_eq, htarget, hseq] at hstop
  refine servo_leaves hrun (motion_stop hrun htask hseek hcursor hq hfetch hk) hw hstop (by rw [← hW]; exact hcalm)
    (by rw [← hW]; rfl) (fun q hq => ?_) ?_
  · exact (modPart_part_ne hq (fun r => { r with pass := some next }) w).trans ((hpart q).trans (credited_ne hcur hq _))
  · exact (modPart_part_self p (fun r => { r with pass := some next }) w).trans (by rw [hself]; rfl)

section
variable (hlast : ∀ pass, (s.part p).pass = some pass → (s.part p).passCount ≤ pass.code)
include hlast

omit hrun hcalm htask hseek hcursor hq hfetch hk in
/-- The Sequencer finds the last pass stopped. -/
theorem stopTaken_periodEnd (tab : Bool) (at_ : Point) (k : CondNo) :
    stopTaken tab at_ k (s.periodEnd (s.atStop e)) =
      if tab then beginCut false (modPart p (fun r => { r with
        tab := some ⟨at_, ((s.periodEnd (s.atStop e)).passEnded p).fetch.position.getD 0, k⟩ })
          ((s.periodEnd (s.atStop e)).passEnded p))
      else openWindow p ((s.periodEnd (s.atStop e)).passEnded p) := by
  refine stopTaken_last ?_ ?_
  · rw [periodEnd_rest]
    exact hcur
  · rw [periodEnd_part (s := s) (v := s.atStop e) rfl rfl p, credited_rest, PartRecord.nextPass]
    dsimp only
    split
    next pass hpass => exact if_neg (Nat.not_lt.2 (hlast pass hpass))
    next => rfl

theorem stop_tabs {i : PathIndex} (htab : tab = true) (hi : s.fetch.position = some i) (hthr : s.thr.request = .off)
    (hc : s.filters.cutterDone.level = .clear) :
    s.expiresTo p
      { s with
        seq := { s.seq.aged.recovered with activity := some .wireCutting }, thr := s.thr.severing
        filters := s.filters.cutTip, queue := [], exe := s.exe.stopped e s.lastStop }
      { s.creditedAt e p with tab := some ⟨e.stop, i, e.cond⟩ } := by
  subst htab
  obtain ⟨n, g, m, hx, hne, hself⟩ := passEnded_exists hcur e
  have hstation : s.seq.aged.recovered.station = .run := by
    rw [Sequencer.recovered]
    split <;> exact hrun
  have hstop := stopTaken_periodEnd hcur hlast (e := e) true e.stop e.cond
  rw [if_pos rfl, hx, show ({ s.atStop e with seq := s.seq.aged.recovered, nest := n, gen := g, gap := m } :
    State).fetch.position.getD 0 = i from congrArg (Option.getD · 0) hi] at hstop
  rw [hx] at hne hself
  rw [beginCut_run (by exact hstation) (by exact hthr) (by exact hc)] at hstop
  refine servo_leaves hrun (motion_stop hrun htask hseek hcursor hq hfetch hk) rfl hstop
    ⟨hcalm.1, severing_phase _⟩ rfl (fun q hq => ?_) ?_
  · exact (modPart_part_ne hq (fun r => { r with tab := some ⟨e.stop, i, e.cond⟩ }) _).trans (hne q hq)
  · exact (modPart_part_self p (fun r => { r with tab := some ⟨e.stop, i, e.cond⟩ }) _).trans (by rw [hself])

theorem stop_opens_window (htab : tab = false) (hs : s.seq.skipOwed = false) :
    s.expiresTo p
      { s with
        seq := { s.seq.aged.recovered with activity := some .dropWatch, window := some s.setup.dropTime }
        thr := s.thr.aged, queue := [], exe := s.exe.stopped e s.lastStop
        reports := if (s.part p).state = .separating then s.reports
                   else (queueReport .part (some p) none (4 + 256 * passCode (s.part p).pass)
                     { s with now := s.now + 1 }).reports }
      { s.creditedAt e p with state := .separating, stage := .window } := by
  subst htab
  obtain ⟨n, g, m, hx, hne, hself⟩ := passEnded_exists hcur e
  have howed : s.seq.aged.recovered.skipOwed = false := by
    rw [Sequencer.recovered]
    split <;> exact hs
  have hstop := stopTaken_periodEnd hcur hlast (e := e) false e.stop e.cond
  rw [if_neg Bool.false_ne_true, openWindow_eq (by rw [hx]; exact howed), hself, hx] at hstop
  rw [hx] at hne hself
  have hstate : (s.creditedAt e p).state = (s.part p).state := by rw [State.creditedAt, credited_rest]
  have hpass : (s.creditedAt e p).pass = (s.part p).pass := by rw [State.creditedAt, credited_rest]
  rw [hstate, hpass] at hstop
  refine servo_leaves hrun (motion_stop hrun htask hseek hcursor hq hfetch hk) rfl hstop hcalm rfl
    (fun q hq => ?_) ?_
  · exact (modPart_part_ne hq (fun r => { r with state := .separating, stage := .window }) _).trans (hne q hq)
  · exact (modPart_part_self p (fun r => { r with state := .separating, stage := .window }) _).trans (by rw [hself])

end

end

/-! ### The expiry that takes a FAULT entry (R52, R57) -/

theorem fault_skips {c : FetchFault} (hk : e.kind = .fault c) (hs : s.seq.skipOwed = false)
    (hthr : s.thr.request = .off) (hc : s.filters.cutterDone.level = .clear) :
    s.expiresTo p
      { s with
        seq := { s.seq.aged.ended .run with activity := some .wireCutting, owed := s.seq.owed
                                            window := s.seq.aged.window }
        thr := s.thr.severing, filters := s.filters.cutTip, queue := [], history := []
        fetch := Fetcher.flushed, exe := s.exe.cleared
        reports := (queueReport .part (some p) (some c.cause) (7 + 256 * passCode (s.part p).pass)
          { s with now := s.now + 1 }).reports }
      { s.credited s.exe.front p with state := .skipped, cause := some c.cause, stage := .off
                                      breakPoint := none } := by
  have hm : motion s.ticked = (endTask s.ticked, some (.fault c)) :=
    (motion_path hrun htask).trans (advancePath_fault (u := s.ticked) hcursor hseek hq hk)
  obtain ⟨n, g, m, hw, hpart⟩ := periodEnd_exists (s := s) (v := endTask s.ticked) rfl rfl
  generalize hW : ({ endTask s.ticked with nest := n, gen := g, gap := m } : State) = w at hw hpart
  have hself : w.part p = s.credited s.exe.front p := hpart p
  have htaken : faultTaken c w = skipWorked p c.cause w := by
    rw [faultTaken, atBoundary_next (by rw [← hW]; exact hs), show w.seq.current = some p by rw [← hW]; exact hcur]
  rw [skipWorked_run (by rw [← hW]; exact hcur) (by rw [← hW]; exact hrun) (by rw [← hW]; exact hthr)
    (by rw [← hW]; exact hc) hself] at htaken
  have hpass : (s.credited s.exe.front p).pass = (s.part p).pass := by rw [credited_rest]
  refine servo_leaves hrun hm hw htaken ⟨by rw [← hW]; exact hcalm.1, severing_phase _⟩ ?_ (fun q hq => ?_) ?_
  · rw [← hpass, ← hW]
    rfl
  · exact (reported_part_ne hq w (some c.cause) _).trans ((hpart q).trans (credited_ne hcur hq _))
  · exact reported_part_self w p (some c.cause) _

end

end Sys2Proof.Machine

open Sys2Proof Sys2Proof.Machine

/-- Settles O60: the motion takes the entry at the head, and the Sequencer starts the next pass, begins the cut at a
tab, opens the drop window or skips the part. -/
theorem stopsAndFaultsEndThePass : Obligations.StopsAndFaultsEndThePass := by
  unfold Obligations.StopsAndFaultsEndThePass
  intro s e p hrun hs hcalm htask hseek hcursor hq hcur hstate hfetch there stop seq point clock ended
  refine ⟨fun pass next i c hk hpass hnext hcount hi hc => ?_, fun i hlast => ⟨fun hk hi hthr hc => ?_, fun hk => ?_⟩,
    fun c hk hthr hc => ?_⟩
  · rcases hk with hk | hk
    · exact stop_starts_next (tab := true) hrun hcalm htask hseek hcursor hq hcur hfetch hk hpass hnext hcount hi hc
    · exact stop_starts_next (tab := false) hrun hcalm htask hseek hcursor hq hcur hfetch hk hpass hnext hcount hi hc
  · exact stop_tabs (tab := true) hrun hcalm htask hseek hcursor hq hcur hfetch hk hlast rfl hi hthr hc
  · exact stop_opens_window (tab := false) hrun hcalm htask hseek hcursor hq hcur hfetch hk hlast rfl hs
  · exact fault_skips hrun hcalm htask hseek hcursor hq hcur hk hs hthr hc
end

section
/-! Break-class conditions at the Sequencer: the count, the break point and the route of the recovery, and the limit
(R53, R55, R111, R114, R133, R138 to R140, R142, R145): O52. -/

namespace Sys2Proof.Machine

variable {s u : State} {p : PartNo} {e : Entry} {f : PathPoint} {c : BreakCondition} {route : Route}

/-! ### What a break records (R55, R138, R140) -/

/-- A break counted on a part's record: its break point is the front unless it already has one. -/
def PartRecord.broken (f : PathPoint) (r : PartRecord) : PartRecord :=
  { r with breakCount := r.breakCount + 1, breakPoint := some (r.breakPoint.getD f) }

/-- The Executor stopped and the break reported. -/
def State.breakReported (p : PartNo) (c : BreakCondition) (u : State) : State :=
  { u with
    exe := { u.exe with task := .off, seek := none }
    reports := (queueReport .break_ (some p) (some c.cause) ((u.part p).breakCount + 1) u).reports }

/-- The Sequencer with the rethread point of a SLOT route recorded (R140). -/
def State.rethreadSeq (route : Route) (u : State) : Sequencer :=
  if route = .slot then { u.seq with rethread := u.workingPoint.map fun w => ⟨w, u.exe.position⟩ } else u.seq

theorem State.rethreadSeq_rest (route : Route) (u : State) :
    (u.rethreadSeq route).current = u.seq.current ∧ (u.rethreadSeq route).activity = u.seq.activity := by
  rw [State.rethreadSeq]
  split <;> exact ⟨rfl, rfl⟩

theorem normal_inside (h : e.isPath = true → e.ordinal = f.ordinal → f.progress < e.length) :
    f.normal (some e) = f :=
  if_neg fun ⟨he, ho, hl⟩ => Nat.ne_of_lt (h he ho) hl

theorem frontPoint_eq (hf : u.exe.front = some f)
    (h : ∀ e, u.queue.head? = some e → e.isPath = true → e.ordinal = f.ordinal → f.progress < e.length) :
    u.frontPoint = some f := by
  rw [State.frontPoint, hf, Option.map_some]
  rcases hq : u.queue.head? with - | e
  · rfl
  · rw [normal_inside (h e hq)]

theorem workingPoint_eq (h : u.workingSegment = some e) (hp : u.exe.progress < e.length) :
    u.workingPoint = some ⟨e.pass, e.ordinal, u.exe.progress⟩ := by
  rw [State.workingPoint, h]
  exact congrArg some (normal_inside fun _ _ => hp)

theorem countBreak_eq (hf : u.frontPoint = some f) (ha : u.seq.activity ≠ some .recovering)
    (hr : recoveryRoute (u.part p) u.seq.activity = route) :
    countBreak p u = { modPart p (PartRecord.broken f) u with seq := u.rethreadSeq route } := by
  have hpoint : (fun r : PartRecord => { r with breakCount := r.breakCount + 1
                                                breakPoint := r.breakPoint <|> u.frontPoint }) =
      PartRecord.broken f := by
    funext r
    rw [hf, PartRecord.broken]
    cases r.breakPoint <;> rfl
  rw [countBreak]
  dsimp only
  rw [hpoint, hr, if_neg ha, State.rethreadSeq]
  split <;> rfl

/-! ### The recovery begun, owed or refused (R47, R55, R139) -/

section
variable (hcur : u.seq.current = some p) (hroute : recoveryRoute (u.part p) u.seq.activity = route)
  (hthr : u.thr.request = .off) (hc : u.filters.cutterDone.level = .clear)
include hcur hroute hthr hc

/-- A route that begins with its CUT step. -/
theorem beginRecovery_cut (h : ¬(route = .slot ∧ c = .wireBreak)) :
    beginRecovery c u =
      { u with
        queue := [], history := [], fetch := Fetcher.flushed, exe := u.exe.cleared
        seq := { u.seq with activity := some .recovering, route := route, step := some .cut }
        thr := u.thr.severing, filters := u.filters.cutTip } := by
  rw [beginRecovery, hcur]
  dsimp only
  rw [hroute, if_neg h, flush_eq, requestCut_off (by exact hthr) (by exact hc)]
  rfl

/-- The SLOT route of a wire break begins with its THREAD step. -/
theorem beginRecovery_thread (h : route = .slot) :
    beginRecovery .wireBreak u =
      { u with
        queue := [], history := [], fetch := Fetcher.flushed, exe := u.exe.cleared
        seq := { u.seq with activity := some .recovering, route := .slot, step := some .thread }
        thr := u.thr.threading .slot (u.part p).threadLimit, filters := u.filters.cutTip } := by
  rw [beginRecovery, hcur]
  dsimp only
  rw [hroute, if_pos ⟨h, rfl⟩, flush_eq, requestThread_off (by exact hthr) (by exact hc)]
  rfl

end

theorem recoverable_eq (hcur : u.seq.current = some p)
    (h : (u.seq.activity = some .cutting ∧ (u.part p).state = .active) ∨
      (u.seq.activity = some .separating ∧ (u.part p).state = .separating ∧ (u.part p).stage = .cut)) :
    u.recoverable = some p := by
  rw [State.recoverable, hcur, Option.filter_some]
  rcases h with ⟨ha, hs⟩ | ⟨ha, hs, hg⟩
  · simp [ha, hs, isCutting]
  · simp [ha, hs, hg, isCutting]

theorem breakReported_eq (p : PartNo) (c : BreakCondition) (u : State) :
    queueReport .break_ (some p) (some c.cause) ((u.part p).breakCount + 1)
      (u.modExe fun e => { e with task := .off, seek := none }) = u.breakReported p c := by
  rw [queueReport, State.breakReported, queueReport]
  rfl

theorem breakReported_not_owed (hs : u.seq.skipOwed = false) : ¬(u.breakReported p c).seq.skipOwed = true := by
  rw [show (u.breakReported p c).seq.skipOwed = false from hs]
  exact Bool.false_ne_true

section
variable (hrec : u.recoverable = some p) (hs : u.seq.skipOwed = false)
include hrec hs

theorem breakTaken_held (hheld : u.seq.station = .held) (hle : (u.part p).breakCount + 1 ≤ (u.part p).breakLimit) :
    breakTaken c u = setOwed .recovery (countBreak p (u.breakReported p c)) := by
  rw [breakTaken, if_pos (.inr hheld), hrec]
  dsimp only
  rw [breakReported_eq, if_neg (breakReported_not_owed hs),
    if_neg (Nat.not_lt.2 hle)]
  exact if_pos hheld

theorem breakTaken_run (hrun : u.seq.station = .run) (hle : (u.part p).breakCount + 1 ≤ (u.part p).breakLimit) :
    breakTaken c u = beginRecovery c (countBreak p (u.breakReported p c)) := by
  rw [breakTaken, if_pos (.inl hrun), hrec]
  dsimp only
  rw [breakReported_eq, if_neg (breakReported_not_owed hs),
    if_neg (Nat.not_lt.2 hle)]
  exact if_neg (by rw [show (u.breakReported p c).seq.station = .run from hrun]; exact Station.noConfusion)

theorem breakTaken_limit (hrun : u.seq.station = .run) (hlt : (u.part p).breakLimit < (u.part p).breakCount + 1) :
    breakTaken c u = skipWorked p .breakLimit (u.breakReported p c) := by
  rw [breakTaken, if_pos (.inl hrun), hrec]
  dsimp only
  rw [breakReported_eq, if_neg (breakReported_not_owed hs)]
  exact if_pos hlt

end

/-- The break counted, with all that is recorded before the flush. -/
def State.breakCounted (p : PartNo) (f : PathPoint) (c : BreakCondition) (route : Route) (u : State) : State :=
  { modPart p (PartRecord.broken f) u with
    exe := { u.exe with task := .off, seek := none }
    reports := (queueReport .break_ (some p) (some c.cause) ((u.part p).breakCount + 1) u).reports
    seq := u.rethreadSeq route }

theorem breakCounted_part_self : (u.breakCounted p f c route).part p = (u.part p).broken f :=
  modPart_part_self p (PartRecord.broken f) u

theorem breakCounted_route :
    recoveryRoute ((u.breakCounted p f c route).part p) (u.breakCounted p f c route).seq.activity =
      recoveryRoute (u.part p) u.seq.activity := by
  obtain ⟨-, hact⟩ := u.rethreadSeq_rest route
  rw [breakCounted_part_self, show (u.breakCounted p f c route).seq.activity = _ from hact]
  rfl

section
variable (hcur : u.seq.current = some p) (hrec : u.recoverable = some p) (hs : u.seq.skipOwed = false)
  (hf : u.frontPoint = some f) (ha : u.seq.activity ≠ some .recovering)
include hcur hrec hs hf

section
variable (hroute : recoveryRoute (u.part p) u.seq.activity = route)
  (hle : (u.part p).breakCount + 1 ≤ (u.part p).breakLimit)
include hroute ha hle

omit hcur hrec hs hle in
theorem countBreak_reported (c : BreakCondition) : countBreak p (u.breakReported p c) = u.breakCounted p f c route :=
  (countBreak_eq (u := u.breakReported p c) hf ha hroute).trans rfl

omit hcur in
theorem breakTaken_owes (hheld : u.seq.station = .held) :
    breakTaken c u =
      { modPart p (PartRecord.broken f) u with
        exe := { u.exe with task := .off, seek := none }
        reports := (queueReport .break_ (some p) (some c.cause) ((u.part p).breakCount + 1) u).reports
        seq := { u.rethreadSeq route with owed := some .recovery } } := by
  rw [breakTaken_held hrec hs hheld hle, countBreak_reported hf ha hroute c]
  rfl

section
variable (hrun : u.seq.station = .run) (hthr : u.thr.request = .off) (hc : u.filters.cutterDone.level = .clear)
include hrun hthr hc

theorem breakTaken_cuts (h : ¬(route = .slot ∧ c = .wireBreak)) :
    breakTaken c u =
      { modPart p (PartRecord.broken f) u with
        queue := [], history := [], fetch := Fetcher.flushed, exe := u.exe.cleared
        reports := (queueReport .break_ (some p) (some c.cause) ((u.part p).breakCount + 1) u).reports
        seq := { u.rethreadSeq route with activity := some .recovering, route := route, step := some .cut }
        thr := u.thr.severing, filters := u.filters.cutTip } := by
  obtain ⟨hcur', -⟩ := u.rethreadSeq_rest route
  rw [breakTaken_run hrec hs hrun hle, countBreak_reported hf ha hroute c,
    beginRecovery_cut (u := u.breakCounted p f c route) (hcur'.trans hcur) (breakCounted_route.trans hroute) hthr hc h]
  rfl

theorem breakTaken_threads (h : route = .slot) :
    breakTaken .wireBreak u =
      { modPart p (PartRecord.broken f) u with
        queue := [], history := [], fetch := Fetcher.flushed, exe := u.exe.cleared
        reports := (queueReport .break_ (some p) (some .wireBreak) ((u.part p).breakCount + 1) u).reports
        seq := { u.rethreadSeq .slot with activity := some .recovering, route := .slot, step := some .thread }
        thr := u.thr.threading .slot (u.part p).threadLimit, filters := u.filters.cutTip } := by
  subst h
  obtain ⟨hcur', -⟩ := u.rethreadSeq_rest .slot
  rw [breakTaken_run hrec hs hrun hle, countBreak_reported hf ha hroute,
    beginRecovery_thread (u := u.breakCounted p f .wireBreak .slot) (hcur'.trans hcur)
      (breakCounted_route.trans hroute) hthr hc rfl, breakCounted_part_self]
  rfl

end

end

end

/-! ### The wire break (R133) -/

/-- Threader Control and the break watch after the wire has been lost. -/
def State.wireLost (s : State) : State :=
  { s with thr := s.thr.broken, filters := { s.filters with tensionOk := Filter.steady .clear .clear } }

theorem tensionOk_falls (hd : s.seq.station ≠ .powerDown) (hw : s.thr.wire = .threaded)
    (h : s.filters.tensionOk = Filter.steady .asserted .asserted) :
    exec (.tensionOkChange .clear .clear) s = .next (finish s (breakTaken .wireBreak s.wireLost)) := by
  have hfell : (s.filters.get .tensionOk).sample2 .clear .clear = ⟨.clear, some .clear, .asserted⟩ := by
    rw [show s.filters.get .tensionOk = _ from h]
    rfl
  have hevent : Filter.event (s.filters.get .tensionOk) ⟨.clear, some .clear, .asserted⟩ = some .clear := by
    rw [show s.filters.get .tensionOk = _ from h]
    rfl
  have hsample : sampleInput .tensionOk .clear .clear s =
      finish s (actOn .tensionOk .clear (modFilter .tensionOk (fun _ => ⟨.clear, some .clear, .asserted⟩) s)) := by
    rw [sampleInput, if_neg hd]
    dsimp only
    rw [hfell, hevent]
    exact if_pos (by simp [State.watches, hw])
  have hact : actOn .tensionOk .clear (modFilter .tensionOk (fun _ => ⟨.clear, some .clear, .asserted⟩) s) =
      breakTaken .wireBreak s.wireLost := by
    rw [actOn]
    refine (if_pos ⟨hw, rfl⟩).trans ?_
    rw [wireBroken, follow_eq]
    rfl
  exact congrArg Host.Outcome.next (by rw [← hact]; exact hsample)

theorem wireLost_calm (h : s.calm) : s.wireLost.calm := by
  refine ⟨h.1, ?_⟩
  show (if s.thr.phase = .done then .idle else s.thr.phase : Phase) ≠ .annealWait
  split
  · exact Phase.noConfusion
  · exact h.2

theorem breakTaken_outside (h : ¬(u.seq.station = .run ∨ u.seq.station = .held)) : breakTaken c u = u := if_neg h

theorem recoveryRoute_tab {r : PartRecord} (h : r.state = .separating) (a : Option Activity) :
    recoveryRoute r a = .tab := if_pos h

theorem recoveryRoute_hole {r : PartRecord} (h : r.state = .active) (ha : r.slotAllowed = false)
    (a : Option Activity) : recoveryRoute r a = .hole := by
  rw [recoveryRoute, if_neg (by rw [h]; exact PartState.noConfusion), if_neg (by rw [ha]; exact fun h => nomatch h.2)]

theorem recoveryRoute_slot {r : PartRecord} (h : r.state = .active) (ha : r.slotAllowed = true) :
    recoveryRoute r (some .cutting) = .slot := by
  rw [recoveryRoute, if_neg (by rw [h]; exact PartState.noConfusion), if_pos ⟨rfl, ha⟩]

theorem recoveryRoute_ne_slot {r : PartRecord} (h : r.state = .separating ∨ r.slotAllowed = false)
    (a : Option Activity) : recoveryRoute r a ≠ .slot := by
  rcases h with h | h
  · rw [recoveryRoute_tab h]
    exact Route.noConfusion
  · rw [recoveryRoute, h]
    split <;> simp

section
variable (hwork : (s.seq.activity = some .cutting ∧ (s.part p).state = .active) ∨
  (s.seq.activity = some .separating ∧ (s.part p).state = .separating ∧ (s.part p).stage = .cut))
include hwork

theorem active_of_cutting (ha : s.seq.activity = some .cutting) : (s.part p).state = .active := by
  rcases hwork with ⟨-, h⟩ | ⟨h, -⟩
  · exact h
  · exact absurd (ha.symm.trans h) nofun

theorem separating_of_separating (ha : s.seq.activity = some .separating) : (s.part p).state = .separating := by
  rcases hwork with ⟨h, -⟩ | ⟨-, h, -⟩
  · exact absurd (ha.symm.trans h) nofun
  · exact h

end

theorem rethreadSeq_slot (h : u.workingSegment = some e) (hp : u.exe.progress < e.length) :
    u.rethreadSeq .slot =
      { u.seq with rethread := some ⟨⟨e.pass, e.ordinal, u.exe.progress⟩, u.exe.position⟩ } := by
  rw [State.rethreadSeq, if_pos rfl, workingPoint_eq h hp]
  rfl

/-! ### The clamped retreat (R111, R114) -/

theorem walkBack_zero (behind : List Entry) (c k : Nat) : walkBack behind c k 0 = ⟨c, k, 0, false⟩ := by
  cases behind <;> rw [walkBack, if_pos (Nat.zero_le k)] <;> rfl

/-- The 200th retreat in a row that is clamped to nothing is STUCK_SHORT. -/
theorem retreatTaken_stuck {k : Condition} {rest : List Entry} (hq : u.queue = e :: rest) (hstep : 0 < k.rstep)
    (hrd : u.exe.rd = 1000 * (u.condition e.cond).lr) (hstuck : u.exe.stuck = 199) :
    retreatTaken k u =
      (endTask { u with exe := { u.exe with stuck := 200 } }, some (.broken .stuckShort)) := by
  have hzero : allowedRetreat k.rstep (u.condition e.cond).lr u.exe.rd = 0 := by
    rw [allowedRetreat, hrd, Nat.sub_self, Nat.min_zero]
  have hhead : (u.queue.head?.map Entry.cond).getD 0 = e.cond := by rw [hq]; rfl
  rw [retreatTaken]
  dsimp only
  rw [hhead, hzero, walkBack_zero]
  dsimp only
  rw [if_pos hstep, hstuck, if_neg Bool.false_ne_true, if_pos ⟨hstep, rfl⟩]
  rfl

theorem motion_stuck {rest : List Entry} (hrun : s.seq.station = .run) (ha : s.seq.activity = some .cutting)
    (htask : s.exe.task = .path) (hseek : s.exe.seek = none) (hcursor : s.exe.cursor = 0)
    (hq : s.queue = e :: rest) (he : e.isPath = true) (hdry : e.dry ≤ s.exe.progress)
    (hform : formStep s.gap.capture (s.condition e.cond) s.gen.level = .retreat)
    (hstep : 0 < (s.condition e.cond).rstep) (hrd : s.exe.rd = 1000 * (s.condition e.cond).lr)
    (hstuck : s.exe.stuck = 199) :
    motion s.ticked =
      (endTask { s.ticked with exe := { s.exe with stuck := 200 } }, some (.broken .stuckShort)) := by
  have hseg : s.ticked.workingSegment = some e := by
    simp [State.workingSegment, show s.ticked.exe.cursor = 0 from hcursor, show s.ticked.queue = e :: rest from hq, he]
  have hform' : formStep s.ticked.gap.last (s.ticked.condition e.cond) s.ticked.gen.level = .retreat := by
    rw [ticked_level]
    exact hform
  have hwalk : walkPath s.ticked =
      (endTask { s.ticked with exe := { s.exe with stuck := 200 } }, some (.broken .stuckShort)) := by
    rw [walkPath, hseg]
    dsimp only
    rw [if_neg (by exact Nat.not_lt.2 hdry), if_pos (by rw [show s.ticked.seq.activity = _ from ha]; rfl), cutStep,
      hform']
    exact retreatTaken_stuck (u := s.ticked) hq hstep hrd hstuck
  rw [motion_path hrun htask, advancePath, show s.ticked.exe.seek = none from hseek]
  dsimp only
  rw [hwalk, if_neg]
  · rfl
  · rintro (h | h | h)
    · exact h rfl
    · exact h rfl
    · exact Nat.lt_irrefl _ h

/-- The SLOT route of a stuck short begins with its CUT step at the expiry that hands it over. -/
theorem stuckShort_begins_slot (hrun : s.seq.station = .run) (hcalm : s.calm) (hcur : s.seq.current = some p)
    (ha : s.seq.activity = some .cutting) (hs : s.seq.skipOwed = false) (hactive : (s.part p).state = .active)
    (hslot : (s.part p).slotAllowed = true) (hle : (s.part p).breakCount + 1 ≤ (s.part p).breakLimit)
    (hf : s.frontPoint = some f) (hseg : s.workingSegment = some e) (hprog : s.exe.progress < e.length)
    (hthr : s.thr.request = .off) (hc : s.filters.cutterDone.level = .clear)
    (hm : motion s.ticked =
      (endTask { s.ticked with exe := { s.exe with stuck := 200 } }, some (.broken .stuckShort))) :
    s.expiresTo p
      { s with
        seq := { s.seq.aged with activity := some .recovering, route := .slot, step := some .cut
                                 rethread := some ⟨⟨e.pass, e.ordinal, s.exe.progress⟩, s.exe.position⟩ }
        thr := s.thr.severing, filters := s.filters.cutTip, queue := [], history := []
        fetch := Fetcher.flushed, exe := s.exe.cleared
        reports := (queueReport .break_ (some p) (some .stuckShort) ((s.part p).breakCount + 1)
          { s with now := s.now + 1 }).reports }
      ((s.credited s.exe.front p).broken f) := by
  obtain ⟨n, g, m, hw, hpart⟩ := periodEnd_exists (s := s)
    (v := endTask { s.ticked with exe := { s.exe with stuck := 200 } }) rfl rfl
  generalize hW : ({ endTask { s.ticked with exe := { s.exe with stuck := 200 } } with
    nest := n, gen := g, gap := m } : State) = w at hw hpart
  have hself : w.part p = s.credited s.exe.front p := hpart p
  have hactw : w.seq.activity = some .cutting := by rw [← hW]; exact ha
  have hcurw : w.seq.current = some p := by rw [← hW]; exact hcur
  have hactivew : (w.part p).state = .active := by rw [hself, credited_rest]; exact hactive
  have hcount : (w.part p).breakCount = (s.part p).breakCount := by rw [hself, credited_rest]
  have hlimit : (w.part p).breakLimit = (s.part p).breakLimit := by rw [hself, credited_rest]
  have hroute : recoveryRoute (w.part p) w.seq.activity = .slot := by
    rw [hactw]
    exact recoveryRoute_slot hactivew (by rw [hself, credited_rest]; exact hslot)
  have htaken := breakTaken_cuts (c := .stuckShort) (f := f) hcurw (recoverable_eq hcurw (.inl ⟨hactw, hactivew⟩))
    (by rw [← hW]; exact hs) (by rw [← hW]; exact hf) (by rw [hactw]; exact nofun) hroute
    (by rw [hcount, hlimit]; exact hle) (by rw [← hW]; exact hrun) (by rw [← hW]; exact hthr)
    (by rw [← hW]; exact hc) nofun
  rw [rethreadSeq_slot (e := e) (by rw [← hW]; exact hseg) (by rw [← hW]; exact hprog), hcount] at htaken
  refine servo_leaves hrun hm hw htaken ⟨by rw [← hW]; exact hcalm.1, severing_phase _⟩ (by rw [← hW]; rfl)
    (fun q hq => ?_) ?_
  · exact (modPart_part_ne hq (PartRecord.broken f) w).trans ((hpart q).trans (credited_ne hcur hq _))
  · exact (modPart_part_self p (PartRecord.broken f) w).trans (by rw [hself])

/-- With the wire not THREADED the generator is off (R92). -/
theorem settled_unthreaded {t : State} (h : t.settled) (hw : t.thr.wire = .unthreaded) : t.gen.on = false := by
  obtain ⟨-, -, -, -, -, -, hon, -⟩ := h
  simp [hon, State.generatorAllowed, hw]

/-- A wire break that leaves `x`, but for what follows from others, with one part's record written. -/
def State.breaksTo (s : State) (p : PartNo) (x : State) (r : PartRecord) : Prop :=
  ∃ t, exec (.tensionOkChange .clear .clear) s = .next t ∧ State.settles s { x with nest := t.nest } t ∧
    (∀ q, q ≠ p → t.part q = s.part q) ∧ t.part p = r

section
variable (hcalm : s.calm) (hw : s.thr.wire = .threaded)
  (htens : s.filters.tensionOk = Filter.steady .asserted .asserted)
include hcalm hw htens

/-- Outside RUN and HELD the break unthreads the wire and no more. -/
theorem wireBreak_outside (hst : s.seq.station = .listen ∨ s.seq.station = .idle ∨ s.seq.station = .halted) :
    ∃ t, exec (.tensionOkChange .clear .clear) s = .next t ∧ State.settles s s.wireLost t ∧ t.gen.on = false := by
  have hd : s.seq.station ≠ .powerDown := by rcases hst with h | h | h <;> rw [h] <;> exact Station.noConfusion
  have hout : ¬(s.seq.station = .run ∨ s.seq.station = .held) := by
    rcases hst with h | h | h <;> rw [h] <;> simp
  have hx := tensionOk_falls hd hw htens
  rw [breakTaken_outside (u := s.wireLost) hout] at hx
  have hset := finish_settles s.wireLost s (wireLost_calm hcalm)
  obtain ⟨-, hthr, -⟩ := settles_rest hset
  obtain ⟨-, hsettled, -⟩ := id hset
  exact ⟨_, hx, hset, settled_unthreaded hsettled (by rw [hthr]; rfl)⟩

omit hcalm in
theorem wireBreak_leaves {x y : State} {r : PartRecord} (hd : s.seq.station ≠ .powerDown)
    (htaken : breakTaken .wireBreak s.wireLost = y) (hcalm : y.calm) (hx : y = { x with nest := y.nest })
    (hne : ∀ q, q ≠ p → y.part q = s.part q) (hself : y.part p = r) : s.breaksTo p x r := by
  have hexec := tensionOk_falls hd hw htens
  rw [htaken] at hexec
  obtain ⟨t, ht, hset, -, hne', hself'⟩ := ends_with_part hexec hcalm hne hself
  have hnest := settles_nest hset
  rw [hx] at hnest
  exact ⟨t, ht, hnest, hne', hself'⟩

omit hcalm in
/-- A break that is counted writes the part's count and break point. -/
theorem wireBreak_counts {x y : State} (hd : s.seq.station ≠ .powerDown)
    (htaken : breakTaken .wireBreak s.wireLost = y) (hcalm : y.calm) (hx : y = { x with nest := y.nest })
    (hnest : y.nest = (modPart p (PartRecord.broken f) s.wireLost).nest) :
    s.breaksTo p x ((s.part p).broken f) := by
  have hpart : ∀ q, y.part q = (modPart p (PartRecord.broken f) s.wireLost).part q := fun q => congrArg (·[q]) hnest
  exact wireBreak_leaves hw htens hd htaken hcalm hx
    (fun q hq => (hpart q).trans (modPart_part_ne hq (PartRecord.broken f) s.wireLost))
    ((hpart p).trans (modPart_part_self p (PartRecord.broken f) s.wireLost))

section
variable (hcur : s.seq.current = some p) (hs : s.seq.skipOwed = false) (hrec : s.wireLost.recoverable = some p)
  (hf : s.wireLost.frontPoint = some f) (ha : s.wireLost.seq.activity ≠ some .recovering)
  (hroute : recoveryRoute (s.part p) s.seq.activity = route)
  (hle : (s.part p).breakCount + 1 ≤ (s.part p).breakLimit)
include hcur hs hrec hf ha hroute hle

omit hcur in
/-- In HELD the recovery is owed. -/
theorem wireBreak_owes (hheld : s.seq.station = .held) (hslot : route ≠ .slot) :
    s.breaksTo p
      { s with
        seq := { s.seq with owed := some .recovery }, thr := s.thr.broken
        filters := { s.filters with tensionOk := Filter.steady .clear .clear }
        reports := (queueReport .break_ (some p) (some .wireBreak) ((s.part p).breakCount + 1) s).reports
        exe := { s.exe with task := .off, seek := none } }
      ((s.part p).broken f) := by
  have htaken := breakTaken_owes (c := .wireBreak) (u := s.wireLost) hrec hs hf ha hroute hle hheld
  rw [State.rethreadSeq, if_neg hslot] at htaken
  exact wireBreak_counts hw htens (by rw [hheld]; exact Station.noConfusion) htaken (wireLost_calm hcalm) rfl rfl

section
variable (hrun : s.seq.station = .run) (hthr : s.thr.request = .off) (hc : s.filters.cutterDone.level = .clear)
include hrun hthr hc

/-- The HOLE and TAB routes begin with their CUT step. -/
theorem wireBreak_cuts (hslot : route ≠ .slot) :
    s.breaksTo p
      { s with
        queue := [], history := [], fetch := Fetcher.flushed, exe := s.exe.cleared
        reports := (queueReport .break_ (some p) (some .wireBreak) ((s.part p).breakCount + 1) s).reports
        seq := { s.seq with activity := some .recovering, route := route, step := some .cut }, thr := s.thr.severing
        filters := ({ s.filters with tensionOk := Filter.steady .clear .clear } : Filters).cutTip }
      ((s.part p).broken f) := by
  have htaken := breakTaken_cuts (c := .wireBreak) (u := s.wireLost) hcur hrec hs hf ha hroute hle hrun hthr hc
    (fun h => hslot h.1)
  rw [State.rethreadSeq, if_neg hslot] at htaken
  exact wireBreak_counts hw htens (by rw [hrun]; exact Station.noConfusion) htaken ⟨hcalm.1, severing_phase _⟩ rfl rfl

/-- The SLOT route begins with its THREAD step, its rethread point the working position. -/
theorem wireBreak_threads (hslot : route = .slot) (hseg : s.workingSegment = some e)
    (hprog : s.exe.progress < e.length) :
    s.breaksTo p
      { s with
        queue := [], history := [], fetch := Fetcher.flushed, exe := s.exe.cleared
        reports := (queueReport .break_ (some p) (some .wireBreak) ((s.part p).breakCount + 1) s).reports
        seq := { s.seq with activity := some .recovering, route := .slot, step := some .thread
                            rethread := some ⟨⟨e.pass, e.ordinal, s.exe.progress⟩, s.exe.position⟩ }
        thr := s.thr.threading .slot (s.part p).threadLimit
        filters := ({ s.filters with tensionOk := Filter.steady .clear .clear } : Filters).cutTip }
      ((s.part p).broken f) := by
  have htaken := breakTaken_threads (u := s.wireLost) hcur hrec hs hf ha hroute hle hrun hthr hc hslot
  rw [rethreadSeq_slot (u := s.wireLost) hseg hprog] at htaken
  exact wireBreak_counts hw htens (by rw [hrun]; exact Station.noConfusion) htaken ⟨hcalm.1, Phase.noConfusion⟩ rfl rfl

end

end

/-- Past the break limit the part is skipped and the wire cut begins. -/
theorem wireBreak_skips (hcur : s.seq.current = some p) (hs : s.seq.skipOwed = false)
    (hrec : s.wireLost.recoverable = some p) (hlt : (s.part p).breakLimit < (s.part p).breakCount + 1)
    (hrun : s.seq.station = .run) (hthr : s.thr.request = .off) (hc : s.filters.cutterDone.level = .clear) :
    s.breaksTo p
      { s with
        queue := [], history := [], fetch := Fetcher.flushed, exe := s.exe.cleared
        seq := { s.seq.ended .run with activity := some .wireCutting, owed := s.seq.owed, window := s.seq.window }
        thr := s.thr.severing
        filters := ({ s.filters with tensionOk := Filter.steady .clear .clear } : Filters).cutTip
        reports := (queueReport .part (some p) (some .breakLimit) (7 + 256 * passCode (s.part p).pass)
          (queueReport .break_ (some p) (some .wireBreak) ((s.part p).breakCount + 1) s)).reports }
      { s.part p with state := .skipped, cause := some .breakLimit, stage := .off, breakPoint := none } := by
  have htaken := breakTaken_limit (c := .wireBreak) (u := s.wireLost) hrec hs hrun hlt
  rw [skipWorked_run (u := s.wireLost.breakReported p .wireBreak) hcur hrun hthr hc rfl] at htaken
  exact wireBreak_leaves hw htens (by rw [hrun]; exact Station.noConfusion) htaken ⟨hcalm.1, severing_phase _⟩ rfl
    (fun q hq => reported_part_ne hq (s.wireLost.breakReported p .wireBreak) (some .breakLimit) _)
    (reported_part_self (s.wireLost.breakReported p .wireBreak) p (some .breakLimit) _)

end

end Sys2Proof.Machine

open Sys2Proof Sys2Proof.Machine

/-- Settles O52: a break is counted and reported, and its route begins, is owed or gives way to the skip of the limit;
the wholly clamped retreat is followed through the expiry that hands it over. -/
theorem wireBreakBeginsRecovery : Obligations.WireBreakBeginsRecovery := by
  unfold Obligations.WireBreakBeginsRecovery
  constructor
  · intro s hcalm hw htens
    refine ⟨wireBreak_outside hcalm hw htens, ?_⟩
    intro p f hcur hs hfront hhead hwork clear broken taken counted flushed
    have hrec : s.wireLost.recoverable = some p := recoverable_eq hcur hwork
    have hf : s.wireLost.frontPoint = some f := frontPoint_eq hfront hhead
    have ha : s.wireLost.seq.activity ≠ some .recovering := by
      show s.seq.activity ≠ _
      rcases hwork with ⟨h, -⟩ | ⟨h, -⟩ <;> rw [h] <;> exact nofun
    refine ⟨fun hle => ⟨fun e hrun hthr hc => ⟨fun hact hslot => ?_, fun hact => ?_, fun hact hslot hseg hprog => ?_⟩,
      fun hheld hwhich => ?_⟩, fun hlt hrun hthr hc => ?_⟩
    · have hroute := recoveryRoute_hole (active_of_cutting hwork hact) hslot s.seq.activity
      exact wireBreak_cuts hcalm hw htens hcur hs hrec hf ha hroute hle hrun hthr hc nofun
    · have hroute := recoveryRoute_tab (separating_of_separating hwork hact) s.seq.activity
      exact wireBreak_cuts hcalm hw htens hcur hs hrec hf ha hroute hle hrun hthr hc nofun
    · have hroute := recoveryRoute_slot (active_of_cutting hwork hact) hslot
      rw [← hact] at hroute
      exact wireBreak_threads hcalm hw htens hcur hs hrec hf ha hroute hle hrun hthr hc rfl hseg hprog
    · have hslot := recoveryRoute_ne_slot (hwhich.imp_left (separating_of_separating hwork)) s.seq.activity
      exact wireBreak_owes hcalm hw htens hs hrec hf ha rfl hle hheld hslot
    · exact wireBreak_skips hcalm hw htens hcur hs hrec hlt hrun hthr hc
  · intro s p e rest f hrun hcalm ha hcur hs hactive hslot hle htask hseek hcursor hq he hdry hprog hfront hinside hform
      hstep hrd hstuck hthr hc
    have hseg : s.workingSegment = some e := by simp [State.workingSegment, hcursor, hq, he]
    have hf : s.frontPoint = some f := frontPoint_eq hfront fun e' he' _ => by
      rw [hq] at he'
      obtain rfl := Option.some.inj he'
      exact hinside
    obtain ⟨t, ht, hrest, hne, hself⟩ := stuckShort_begins_slot hrun hcalm hcur ha hs hactive hslot hle hf hseg hprog
      hthr hc (motion_stuck hrun ha htask hseek hcursor hq he hdry hform hstep hrd hstuck)
    refine ⟨t, ht, hrest, hne, hself.trans ?_⟩
    rw [PartRecord.broken, hfront, credited_breakPoint, credited_rest]
end

section
/-! What keeps a halted station at rest: every command but RESET STATION and power-on (R58, R59): O9. -/

namespace Sys2Proof.Machine

variable {s t : State} {code : Option HaltCode}

/-- A halted station at rest, with its halt code. -/
def State.haltStands (s : State) (code : Option HaltCode) : Prop := s.haltedAtRest ∧ s.seq.halt = code

/-- The rest reads the Sequencer, the walk, Threader Control, the task and the own claim. -/
theorem State.haltStands.of_same (h : s.haltStands code)
    (hsame : t.seq = s.seq ∧ t.walking = s.walking ∧ t.thr = s.thr ∧ t.exe = s.exe ∧ t.coord.jet = s.coord.jet) :
    t.haltStands code := by
  obtain ⟨hseq, hwalk, hthr, hexe, hjet⟩ := hsame
  simp only [State.haltStands, State.haltedAtRest, hseq, hwalk, hthr, hexe, hjet]
  exact h

theorem State.haltStands.station (h : s.haltStands code) : s.seq.station = .halted := by
  obtain ⟨⟨hst, -⟩, -⟩ := h
  exact hst

theorem State.haltStands.phase (h : s.haltStands code) : s.thr.phase = .idle ∨ s.thr.phase = .done := by
  obtain ⟨⟨-, -, -, -, -, hphase, -⟩, -⟩ := h
  exact hphase

theorem State.haltStands.phase_ne (h : s.haltStands code) {p : Phase} (hi : p ≠ .idle) (hd : p ≠ .done) :
    s.thr.phase ≠ p := by
  rintro rfl
  exact h.phase.elim hi hd

theorem State.haltStands.request (h : s.haltStands code) : s.thr.request = .off := by
  obtain ⟨⟨-, -, -, -, hreq, -⟩, -⟩ := h
  exact hreq

theorem State.haltStands.task (h : s.haltStands code) : s.exe.task = .off := by
  obtain ⟨⟨-, -, -, -, -, -, -, htask, -⟩, -⟩ := h
  exact htask

theorem State.haltStands.jet (h : s.haltStands code) : s.coord.jet = .off := by
  obtain ⟨⟨-, -, -, -, -, -, -, -, hjet⟩, -⟩ := h
  exact hjet

theorem State.haltStands.window (h : s.haltStands code) : s.seq.window = none := by
  obtain ⟨⟨-, -, hwin, -⟩, -⟩ := h
  exact hwin

theorem State.haltStands.walking (h : s.haltStands code) : s.walking = false := by
  obtain ⟨⟨-, -, -, hwalk, -⟩, -⟩ := h
  exact hwalk

/-! ### The events of a halted station -/

/-- A halted station watches for a wire break alone. -/
theorem State.haltStands.watches (h : s.haltStands code) {i : Input} {l : Level} (hw : s.watches i l = true) :
    i = .tensionOk ∧ s.thr.wire = .threaded ∧ l = .clear := by
  have hjob : s.inJob = false := by simp [State.inJob, h.station]
  cases i with
  | contact | cutterDone | supplySag => rcases h.phase with hp | hp <;> simp [State.watches, hp] at hw
  | tensionOk => rcases h.phase with hp | hp <;> simpa [State.watches, hp] using hw
  | drop | wireLow | limit => simp [State.watches, hjob] at hw

/-- A wire break in HALTED leaves the wire UNTHREADED and goes no further (R53, R133). -/
theorem wireBroken_haltStands (h : s.haltStands code) : (wireBroken s).haltStands code := by
  have hphase : (if s.thr.phase = .done then Phase.idle else s.thr.phase) = .idle := by
    rcases h.phase with hp | hp <;> rw [hp] <;> rfl
  obtain ⟨⟨hst, hcur, hwin, hwalk, hreq, -, hrest⟩, hcode⟩ := h
  rw [wireBroken, breakTaken_outside (by simp [hst])]
  exact ⟨⟨hst, hcur, hwin, hwalk, hreq, .inl hphase, hrest⟩, hcode⟩

theorem actOn_haltStands (h : s.haltStands code) {i : Input} {l : Level} (hw : s.watches i l = true) {u : State}
    (hu : u.haltStands code) (hwire : u.thr.wire = s.thr.wire) : (actOn i l u).haltStands code := by
  obtain ⟨rfl, hthreaded, rfl⟩ := h.watches hw
  rw [actOn, if_pos ⟨hwire.trans hthreaded, rfl⟩]
  exact wireBroken_haltStands hu

theorem takeEvent_haltStands (i : Input) (l : Level) (h : s.haltStands code) : (takeEvent i l s).haltStands code := by
  rw [takeEvent]
  split
  next hw => exact actOn_haltStands h hw h rfl
  next => exact h

theorem conclude_haltStands (b : State) (h : s.haltStands code) : (conclude b s).haltStands code :=
  h.of_same (by simp [conclude])

theorem drain_haltStands : ∀ (n : Nat) {s : State}, s.haltStands code → (drain n s).haltStands code
  | 0, _, h => h
  | n + 1, s, h => by
    rw [drain]
    split
    · exact h
    · exact drain_haltStands n (conclude_haltStands _ (takeEvent_haltStands _ _ h))

theorem finish_haltStands (b : State) (h : s.haltStands code) : (finish b s).haltStands code := by
  have hquiet : (quiesce b s).haltStands code := drain_haltStands 16 (conclude_haltStands b h)
  rw [finish, annealTest_calm _ (hquiet.phase_ne nofun nofun)]
  exact drain_haltStands 16 (conclude_haltStands _ hquiet)

theorem sampleInput_haltStands (i : Input) (a b : Level) (h : s.haltStands code) :
    (sampleInput i a b s).haltStands code := by
  rw [sampleInput, if_neg (by rw [h.station]; exact nofun)]
  dsimp only
  split
  · exact h
  · split
    next hw => exact finish_haltStands s (actOn_haltStands (s := modFilter i _ s) h hw h rfl)
    next => exact h

/-! ### The commands -/

theorem grantTest_off (h : s.coord.jet = .off) : grantTest s = s :=
  if_neg fun ⟨hw, _⟩ => Jet.noConfusion (h.symm.trans hw)

theorem conflictTest_off (h : s.coord.jet = .off) (peer : StationNo) (n : Notice) : conflictTest peer n s = s :=
  if_neg (by simp [State.yieldsTo, h])

theorem seeStamp_haltStands (n : Nat) (h : s.haltStands code) : (seeStamp n s).haltStands code :=
  h.of_same (by simp)

theorem seeNotice_haltStands (n : Notice) (h : s.haltStands code) : (seeNotice n s).haltStands code := by
  rw [seeNotice]
  split
  · exact h
  · exact seeStamp_haltStands _ h

theorem lineActivity_haltStands (h : s.haltStands code) : (lineActivity s).haltStands code := by
  rw [lineActivity]
  split <;> exact h

theorem peerNotice_haltStands (peer : StationNo) (n : Notice) (h : s.haltStands code) :
    (peerNotice peer n s).haltStands code := by
  rw [peerNotice]
  have hseen (u : State) (hu : u.haltStands code) :
      (derive (seeNotice n (setPeer peer (some n.entry) u))).haltStands code :=
    (seeNotice_haltStands n (s := setPeer peer (some n.entry) u) hu).of_same (by simp)
  have hfound : (derive (seeNotice n (setPeer peer (some n.entry)
      (if (s.peer peer).isNone then queueReport .peerFound none none peer.val s else s)))).haltStands code :=
    hseen _ (by split <;> exact h)
  rw [grantTest_off hfound.jet, conflictTest_off hfound.jet]
  exact hfound

/-- In HALTED, DUPLICATE_STATION is not taken (R53). -/
theorem ownNumberNotice_haltStands (n : Notice) (h : s.haltStands code) : (ownNumberNotice n s).haltStands code := by
  have hseen := seeNotice_haltStands n h
  rw [ownNumberNotice, hseen.station]
  exact hseen

theorem noticeArrival_haltStands (frame : List Byte) (h : s.haltStands code) :
    Answers (State.haltStands · code) (execNoticeArrival frame s) := by
  have hline := lineActivity_haltStands h
  rw [execNoticeArrival, answers_next]
  (repeat' split)
  · exact h
  · exact hline
  · exact hline
  · exact finish_haltStands s (ownNumberNotice_haltStands _ hline)
  · exact finish_haltStands s (peerNotice_haltStands _ _ hline)

/-- No claim waits for its first completion, and none for a grant. -/
theorem transmissionComplete_haltStands (h : s.haltStands code) :
    Answers (State.haltStands · code) (execTransmissionComplete s) := by
  have hcomplete (n : Notice) : (completeFrame n s).haltStands code := by
    rw [completeFrame]
    split
    · exact h
    · refine h.of_same ?_
      simp only [State.modCoord_seq, State.modCoord_walking, State.modCoord_thr, State.modCoord_exe,
        State.modCoord_coord, apply_ite Coordination.jet, ite_self]
      simp
  have hreturn {u : State} (hu : u.haltStands code) : (returnLine u).haltStands code := by
    rcases returnLine_cases u with ⟨-, hr⟩ | ⟨-, hr⟩ <;> rw [hr] <;> exact hu
  have hrestore {u : State} (hu : u.haltStands code) : (restoreLine u).haltStands code := by
    have hd : (derive (returnLine u)).haltStands code := (hreturn hu).of_same (by simp)
    rw [restoreLine]
    split
    · rw [grantTest_off hd.jet]; exact hd
    · exact hu
  rw [execTransmissionComplete, answers_next]
  split
  · rw [if_neg (by rw [h.station]; exact nofun)]
    exact finish_haltStands s (hrestore (hcomplete _))
  · exact h

/-- With no task the expiry of a servo period moves nothing and hands nothing over (R98). -/
theorem servoPeriodExpiry_haltStands (h : s.haltStands code) :
    Answers (State.haltStands · code) (exec .servoPeriodExpiry s) := by
  have htick : s.ticked.haltStands code := by
    obtain ⟨⟨hst, hcur, hwin, hrest⟩, hcode⟩ := h
    exact ⟨⟨hst, hcur, congrArg lessOne hwin, hrest⟩, hcode⟩
  have hmotion : motion s.ticked = (s.ticked, none) := by
    rw [motion, htick.task]
    exact ite_self _
  rw [servo_eq (by rw [h.station]; exact nofun) hmotion, answers_next]
  have hend : (s.periodEnd s.ticked).haltStands code := by
    rw [periodEnd_rest]
    exact htick
  exact finish_haltStands s hend

/-- An emission that ends leaves the state, or places what it read. -/
theorem execEmission_cases (h : execEmission s = .next t) : t = s ∨ ∃ part e r, t = placeTaken part e r s := by
  unfold execEmission at h
  split at h
  next u hemit =>
    cases h
    unfold State.emit at hemit
    (repeat' split at hemit) <;> simp only [reduceCtorEq, Option.some.injEq, Option.map_eq_some_iff] at hemit
    obtain ⟨r, -, rfl⟩ := hemit
    exact .inr ⟨_, _, r, rfl⟩
  next => cases h
  next => exact .inl (by cases h; rfl)

theorem emission_haltStands (h : s.haltStands code) : Answers (State.haltStands · code) (execEmission s) := by
  intro t ht
  rcases execEmission_cases ht with rfl | ⟨part, e, r, rfl⟩
  · exact h
  · rw [placeTaken]
    split <;> exact h

theorem jobGate_halted {takenIn : List Station} {body : State → State} (h : s.seq.station = .halted) :
    jobGate takenIn body s = answer .halted [] s := if_pos h

/-- A halted station at rest stays so, with its code, under every other command (R59). -/
theorem exec_haltStands (c : Instr) (hreset : c ≠ .resetStation) (hpower : ∀ n p f, c ≠ .powerOn n p f)
    (h : s.haltStands code) : Answers (State.haltStands · code) (exec c s) := by
  have hst := h.station
  have hself : Answers (State.haltStands · code) (.next s) := (answers_next _ _).2 h
  cases c with
  | resetStation => exact absurd rfl hreset
  | powerOn n p f => exact absurd rfl (hpower n p f)
  | setup | loadCondition | loadPath | loadPart | clearStore | startJob | hold | resume | abort | skipPart =>
    simp only [exec, execSetup, execLoadCondition, execLoadPath, execLoadPart, execClearStore, execStartJob, execHold,
      execResume, execAbort, execSkipPart, jobGate_halted hst, answers_next]
    split <;> exact h
  | readStatus | readPart | readPeers | readReports | unknownRequest | responseSent | requestArrival
      | jobLinkFrameDiscard | jobLinkByteTimeout =>
    simp only [exec, execReadStatus, execReadPart, execReadPeers, execReadReports, execUnknownRequest,
      execResponseSent, execRequestArrival, execJobLinkFrameDiscard, execJobLinkByteTimeout, hunt, answers_next]
    (repeat' split) <;> exact h
  | dropInputChange l m | limitInput l m | wireLowInput l m | cutterDone l m | supplySag l m | contact l m
      | tensionOkChange l m =>
    exact (answers_next _ _).2 (sampleInput_haltStands _ l m h)
  | cutTipTimeout | annealExpiry | jetWaitLimitExpiry | feedTimeout | tensionTimeout | sagBlankExpiry =>
    simp only [exec, execCutTipTimeout, execAnnealExpiry, execJetWaitLimitExpiry, execFeedTimeout, execTensionTimeout,
      execSagBlankExpiry, State.phaseTimed, answers_next]
    rcases h.phase with hp | hp <;> simpa [hp] using h
  | tensionCheckExpiry =>
    rw [exec, execTensionCheckExpiry, if_neg (by simp [State.checkingTension, h.request])]
    exact hself
  | dropWindowExpiry =>
    have hnone : s.windowPart = none := by simp [State.windowPart, h.window]
    rw [exec, execDropWindowExpiry, hnone]
    exact hself
  | validationWalkEnd =>
    rw [exec, execValidationWalkEnd, if_neg (by simp [h.walking])]
    exact hself
  | listenTimerExpiry =>
    rw [exec, execListenTimerExpiry, if_neg (by simp [hst])]
    exact hself
  | powerWarn =>
    rw [exec, execPowerWarn, hst]
    exact hself
  | settleTimerExpiry =>
    rw [exec, execSettleTimerExpiry, if_neg (by simp [h.jet])]
    exact hself
  | servoPeriodExpiry => exact servoPeriodExpiry_haltStands h
  | emission => exact emission_haltStands h
  | transmissionComplete => exact transmissionComplete_haltStands h
  | noticeArrival frame => exact noticeArrival_haltStands frame h
  | cellFrameDiscard => exact (answers_next _ _).2 (lineActivity_haltStands h)
  | pulseMeasurement | spacingTimerExpiry | refreshTimerExpiry =>
    simp only [exec, execPulseMeasurement, execSpacingTimerExpiry, execRefreshTimerExpiry, answers_next]
    split <;> exact h
  | transmitStart | collision =>
    simp only [exec, execTransmitStart, execCollision, hst, reduceCtorEq, if_false, answers_next]
    split
    · exact finish_haltStands s h
    · exact h
  | lineTimerExpiry =>
    have hdegraded : (enterDegraded (s.modPort fun p => { p with line := none })).haltStands code := by
      rw [enterDegraded]
      split <;> exact h
    rw [exec, execLineTimerExpiry, answers_next]
    split
    · exact finish_haltStands s hdegraded
    · exact h
  | peerExpiry n =>
    have hlost : (derive (queueReport .peerLost none none n.val (setPeer n none s))).haltStands code :=
      State.haltStands.of_same (s := queueReport .peerLost none none n.val (setPeer n none s)) h (by simp)
    rw [exec, execPeerExpiry, grantTest_off hlost.jet, answers_next]
    split
    · exact finish_haltStands s hlost
    · exact h

end Sys2Proof.Machine

open Sys2Proof Sys2Proof.Machine

/-- Settles O9: a halted station at rest has no request, task, claim, window or walk that a command could take up, and
watches for a wire break alone, which in HALTED ends at the wire. -/
theorem haltedStationStaysHalted : Obligations.HaltedStationStaysHalted :=
  fun c _ t hrest hreset hpower ht => exec_haltStands c hreset hpower ⟨hrest, rfl⟩ t ht
end

section
/-! POWER_WARN and what POWER_DOWN takes (R60, R136, R153, R154): O17. -/

namespace Sys2Proof.Machine

variable {s u : State}

/-! ### The entry to POWER_DOWN -/

/-- With no activity and Threader Control in IDLE, Generator Control is at 0, the generator off, and the period in
progress takes no mark. -/
theorem derive_workless (ha : u.seq.activity = none) (hp : u.thr.phase = .idle) :
    derive u =
      { u with
        gen := { u.gen with level := 0, target := 0, cond := none, dry := none, on := false, draw := 0, flush := 0 }
        coord := { u.coord with ap := u.powerAllowance, af := u.flushAllowance } } := by
  have hdrop : dropCondition u = u.modGen fun g => { g with cond := none, dry := none } :=
    if_neg (by simp [ha, isCutting])
  rw [derive_rest, derive_coord_eq, derive, hdrop]
  simp [recomputeAllowances, recomputeLevels, switchGenerator, State.levelTarget, State.drawTarget, State.flushTarget,
    State.offTimeOutput, State.generatorAllowed, State.cuttingNow, State.heavy, isCutting, ha, hp]

/-- The station in POWER_DOWN, before what follows from it is recomputed and the Cell Line Port prepares its notice. -/
def State.powerStopped (s : State) : State :=
  { s.workStopped .power with
    seq := { s.seq.ended .powerDown with
             listen := none, mark := some ⟨s.workingPart, s.seq.station, s.seq.activity⟩ }
    walking := false }

/-- The entry to POWER_DOWN in the block shapes of R60. -/
theorem enterPowerDown_eq (s : State) : enterPowerDown s = portPowerDown (derive s.powerStopped) := by
  have hstop := stopWork_eq s
  obtain ⟨hn, hr⟩ := interruptCurrent_congr (s := s) (t := (closeWindow (stopThreader (flush s))).setWalking false)
    .power (by rw [hstop]; rfl) (by rw [hstop]; rfl) (by rw [hstop]; rfl) (by rw [hstop]; rfl)
  rw [enterPowerDown]
  rw [interruptCurrent_rest, hn, hr, hstop]
  rfl

theorem execPowerWarn_taken (h : s.seq.station = .listen ∨ s.seq.station = .idle ∨ s.seq.station = .run ∨
    s.seq.station = .held) : exec .powerWarn s = .next (enterPowerDown s) := by
  rw [exec, execPowerWarn]
  rcases h with h | h | h | h <;> rw [h]

/-! ### The commands in POWER_DOWN -/

/-- No request is taken in POWER_DOWN (R170). -/
theorem taking_powerDown (h : s.seq.station = .powerDown) : s.taking = none := by
  rw [State.taking, State.front, if_pos (.inl h)]
  rfl

/-- A command in POWER_DOWN leaves all but the Cell Line Port, whose line timer stays stopped. -/
def LeavesAllButPort (s : State) (r : Result) : Prop := ∃ p : CellPort, p.line = none ∧ r = .next { s with port := p }

theorem leavesAllButPort_self (h : s.port.line = none) : LeavesAllButPort s (.next s) := ⟨s.port, h, rfl⟩

theorem leavesAllButPort_lineActivity (h : s.port.line = none) : LeavesAllButPort s (.next (lineActivity s)) := by
  rw [lineActivity]
  split
  · exact leavesAllButPort_self h
  · exact ⟨{ s.port with idle := 0 }, h, rfl⟩

/-- Every command but POWER_ON and TRANSMISSION_COMPLETE (R60, R136). -/
theorem exec_powerDown (c : Instr) (h : s.downAtRest) (hpower : ∀ n p f, c ≠ .powerOn n p f)
    (hcomplete : c ≠ .transmissionComplete) : LeavesAllButPort s (exec c s) := by
  obtain ⟨hst, hwindow, -, hwalk, htimer, hblank, hfetch, hline, hrefresh, hsettle⟩ := h
  have hself := leavesAllButPort_self hline
  have htaking := taking_powerDown hst
  cases c with
  | powerOn n p f => exact absurd rfl (hpower n p f)
  | transmissionComplete => exact absurd rfl hcomplete
  | setup | loadCondition | loadPath | loadPart | clearStore | startJob | hold | resume | abort | skipPart | readStatus
      | readPart | readPeers | readReports | resetStation | unknownRequest =>
    simp only [exec, execSetup, execLoadCondition, execLoadPath, execLoadPart, execClearStore, execStartJob, execHold,
      execResume, execAbort, execSkipPart, execReadStatus, execReadPart, execReadPeers, execReadReports,
      execResetStation, execUnknownRequest, htaking]
    exact hself
  | requestArrival frame =>
    simp only [exec, execRequestArrival, hunt, hst, if_true]
    split <;> exact hself
  | jobLinkFrameDiscard | jobLinkByteTimeout | responseSent | powerWarn | listenTimerExpiry | validationWalkEnd
      | servoPeriodExpiry | pulseMeasurement | spacingTimerExpiry | peerExpiry n =>
    simpa [exec, execJobLinkFrameDiscard, execJobLinkByteTimeout, hunt, execResponseSent, execPowerWarn,
      execListenTimerExpiry, execValidationWalkEnd, execServoPeriodExpiry, execPulseMeasurement,
      execSpacingTimerExpiry, execPeerExpiry, hst, hwalk] using hself
  | dropInputChange a b | limitInput a b | wireLowInput a b | cutterDone a b | supplySag a b | contact a b
      | tensionOkChange a b =>
    simpa [exec, execDropInputChange, execLimitInput, execWireLowInput, execCutterDone, execSupplySag, execContact,
      execTensionOkChange, sampleInput, hst] using hself
  | cutTipTimeout | sagBlankExpiry | annealExpiry | jetWaitLimitExpiry | feedTimeout | tensionTimeout
      | tensionCheckExpiry | dropWindowExpiry | lineTimerExpiry | refreshTimerExpiry | settleTimerExpiry =>
    simpa [exec, execCutTipTimeout, execSagBlankExpiry, execAnnealExpiry, execJetWaitLimitExpiry, execFeedTimeout,
      execTensionTimeout, execTensionCheckExpiry, execDropWindowExpiry, execLineTimerExpiry, execRefreshTimerExpiry,
      execSettleTimerExpiry, State.phaseTimed, State.checkingTension, State.windowPart, htimer, hblank, hwindow, hline,
      hrefresh, hsettle] using hself
  | emission => simpa [exec, execEmission, State.emit, hfetch] using hself
  | transmitStart idle =>
    simp only [exec, execTransmitStart, hst, if_true]
    split
    · exact ⟨(startFrame s).port, hline, rfl⟩
    · exact hself
  | collision =>
    simp only [exec, execCollision, hst, if_true]
    split
    · exact ⟨(endLastFrame (countCollision s)).port, hline, rfl⟩
    · exact hself
  | noticeArrival frame =>
    simp only [exec, execNoticeArrival, hst, if_true]
    split
    · exact hself
    · exact leavesAllButPort_lineActivity hline
  | cellFrameDiscard => exact leavesAllButPort_lineActivity hline

theorem downAtRest_port (h : s.downAtRest) {p : CellPort} (hp : p.line = none) :
    ({ s with port := p } : State).downAtRest := by
  obtain ⟨hst, hwindow, hlisten, hwalk, htimer, hblank, hfetch, -, hrest⟩ := h
  exact ⟨hst, hwindow, hlisten, hwalk, htimer, hblank, hfetch, hp, hrest⟩

/-! ### The end of the one transmission -/

/-- The completion in POWER_DOWN: D, the collision count, and normal line mode (R60, R153, R154). -/
theorem completeLastFrame_eq (n : Notice) (s : State) :
    let t := completeLastFrame n s
    t = { s with
      port := { s.port with tx := .quiet, due := false, frame := none, idle := 0, collisions := 0 }
      coord := { s.coord with drawn := n.draw, mode := .normal, ap := t.coord.ap, af := t.coord.af }
      reports := if s.coord.mode = .degraded
                 then (queueReport .lineRestored none none s.port.collisions s).reports else s.reports } ∧
    (s.coord.mode = .degraded → t.coord.ap = t.powerAllowance ∧ t.coord.af = t.flushAllowance) ∧
    (s.coord.mode = .normal → t.coord.ap = s.coord.ap ∧ t.coord.af = s.coord.af) := by
  dsimp only
  rw [completeLastFrame]
  rcases returnLine_cases (s.modCoord fun c => { c with drawn := n.draw }) with ⟨hmode, hr⟩ | ⟨hmode, hr⟩
  · have hmode : s.coord.mode = .normal := hmode
    rw [hr, if_neg (by rw [hmode]; exact nofun)]
    refine ⟨?_, fun hd => absurd (hmode.symm.trans hd) nofun, fun _ => ⟨rfl, rfl⟩⟩
    rw [← hmode]
    rfl
  · have hmode : s.coord.mode = .degraded := hmode
    rw [hr, if_pos hmode]
    exact ⟨rfl, fun _ => ⟨rfl, rfl⟩, fun hn => absurd (hmode.symm.trans hn) nofun⟩

theorem execTransmissionComplete_powerDown (hst : s.seq.station = .powerDown) {n : Notice} (htx : s.port.tx = .sending)
    (hframe : s.port.frame = some n) : exec .transmissionComplete s = .next (completeLastFrame n s) := by
  simp only [exec, execTransmissionComplete, htx, hframe, hst, if_true]

theorem completeLastFrame_downAtRest (h : s.downAtRest) (n : Notice) : (completeLastFrame n s).downAtRest := by
  obtain ⟨hst, hwindow, hlisten, hwalk, htimer, hblank, hfetch, hline, hrefresh, hsettle⟩ := h
  obtain ⟨ht, -, -⟩ := completeLastFrame_eq n s
  rw [ht]
  exact ⟨hst, hwindow, hlisten, hwalk, htimer, hblank, hfetch, hline, hrefresh, hsettle⟩

theorem transmissionComplete_downAtRest (h : s.downAtRest) :
    Answers State.downAtRest (exec .transmissionComplete s) := by
  rw [exec, execTransmissionComplete, answers_next]
  split
  · rw [if_pos h.1]
    exact completeLastFrame_downAtRest h _
  · exact h

end Sys2Proof.Machine

open Sys2Proof Sys2Proof.Machine

/-- Settles O17: the entry by its block shapes, the commands in POWER_DOWN one by one, and the completion by what it
does to the line mode. -/
theorem powerWarnEntersPowerDown : Obligations.PowerWarnEntersPowerDown := by
  refine ⟨⟨fun s hst => ?_, fun s hst => ?_⟩, fun c s t hrest hpower ht => ?_, fun s n hrest htx hframe => ?_⟩
  · have hderive := derive_workless (u := s.powerStopped) rfl rfl
    refine ⟨_, execPowerWarn_taken hst, ?_, ?_, ?_, ?_⟩
    · rw [enterPowerDown_eq, hderive]
      rfl
    · rw [enterPowerDown_eq]
      exact derive_settled s.powerStopped
    · rw [enterPowerDown_eq, hderive]
      rfl
    · rw [enterPowerDown_eq, hderive]
      rfl
  · rw [exec, execPowerWarn]
    rcases hst with hst | hst <;> rw [hst]
  · by_cases hc : c = .transmissionComplete
    · subst hc
      exact ⟨transmissionComplete_downAtRest hrest t ht, fun hne => absurd rfl hne⟩
    · obtain ⟨p, hline, hp⟩ := exec_powerDown c hrest hpower hc
      cases hp.symm.trans ht
      exact ⟨downAtRest_port hrest hline, fun _ => rfl⟩
  · exact ⟨_, execTransmissionComplete_powerDown hrest.1 htx hframe, completeLastFrame_eq n s⟩
end

section
/-! RESET STATION (R62, R177): O18. -/

namespace Sys2Proof.Machine

variable {s : State}

/-- The blocks as RESET STATION leaves them, the part records and reports apart (R62). -/
def State.workCleared (u : State) : State :=
  { u with
    queue := [], history := [], fetch := Fetcher.flushed, exe := Executor.poweredOn u.exe.position
    gen := { Generator.poweredOn with total := u.gen.total }, thr := Threader.poweredOn
    filters := { u.filters.wireFollowed.limitsFollowed with tensionOk := u.filters.tensionOk.followed }
    coord := { u.coord with jet := .off, stamp := 0, settle := none, completed := false }
    seq := { Sequencer.poweredOn with
             station := .idle, listen := none, dropCount := u.seq.dropCount, mark := u.seq.mark }
    port := if u.port.tx = .silent then { u.port with tx := .ready, due := true, line := some 20 } else u.port
    locks := [] }

/-- RESET STATION interrupts the parts found at work and clears the blocks. -/
theorem resetStation_eq (s : State) : resetStation s = (interruptAmong .reset allParts s).workCleared := by
  rw [resetStation, interruptFound_eq]
  generalize interruptAmong .reset allParts s = u
  apply State.eq_of_fields
  case h6 | h8 | h9 | h10 | h11 | h13 | h14 | h15 | h16 | h17 => rfl
  all_goals simp [State.workCleared, followThreaderInputs, wakePort, Config.lineTime]

/-- Its effects as the statement gives them. -/
theorem resetStation_clears (s : State) :
    resetStation s =
      { s.workCleared with nest := (resetStation s).nest, reports := (resetStation s).reports } := by
  have hrest := interruptAmong_rest .reset allParts s
  rw [resetStation_eq]
  generalize interruptAmong .reset allParts s = u at hrest ⊢
  rw [hrest]
  rfl

/-- Each part found at work is INTERRUPTED (R37, R62). -/
theorem resetStation_part (s : State) (q : PartNo) :
    (resetStation s).part q = if (s.part q).working then (s.part q).interrupted else s.part q := by
  have hpart := interruptAmong_part .reset (List.nodup_finRange 32) s q
  rw [resetStation_eq, allParts]
  generalize interruptAmong .reset (List.finRange 32) s = u at hpart ⊢
  exact hpart.trans (by simp)

/-- The PART reports of those parts, in ascending number, where the queue has room (R62). -/
theorem resetStation_reports (s : State)
    (hroom : s.reports.items.length + ((List.finRange 32).filter fun q => (s.part q).working).length ≤ 32) :
    (resetStation s).reports.items =
      s.reports.items ++ ((List.finRange 32).filter fun q => (s.part q).working).map fun q =>
        ⟨.part, some q, some .reset, 2 + 256 * passCode (s.part q).pass, s.now % 2 ^ 32⟩ := by
  have hreports := interruptAmong_reports .reset (List.nodup_finRange 32) s hroom
  rw [resetStation_eq, allParts]
  generalize interruptAmong .reset (List.finRange 32) s = u at hreports ⊢
  exact congrArg ReportQueue.items hreports

/-- RESET STATION outside LISTEN. -/
theorem execResetStation_takes (hf : s.front = some ⟨0x0F, []⟩) (hst : s.seq.station ≠ .listen) :
    exec .resetStation s = .next (finish s { resetStation s with link := s.answering ⟨0x0F, []⟩ .ok [] }) := by
  have hclears := resetStation_clears s
  change execResetStation s = _
  rw [execResetStation, taking_of_front hf]
  change Host.Outcome.next (if s.seq.station = .listen then _ else finish s (answer .ok [] (resetStation s))) = _
  generalize resetStation s = u at hclears ⊢
  have hlink : u.link = s.link := by rw [hclears]; rfl
  rw [if_neg hst, answer_eq (s := u) (by rw [hlink]; exact head_of_front hf), State.answering, hlink]
  rfl

theorem execResetStation_listen (hf : s.front = some ⟨0x0F, []⟩) (hst : s.seq.station = .listen) :
    exec .resetStation s = .next { s with link := s.answering ⟨0x0F, []⟩ .refusedState [] } := by
  change execResetStation s = _
  rw [execResetStation, taking_of_front hf]
  change Host.Outcome.next (if s.seq.station = .listen then answer .refusedState [] s else _) = _
  rw [if_pos hst, answer_eq (head_of_front hf)]

end Sys2Proof.Machine

open Sys2Proof Sys2Proof.Machine

/-- Settles O18: the parts found at work are interrupted in ascending number, and every other block takes its reset
value or stands. -/
theorem resetStationClearsTheWork : Obligations.ResetStationClearsTheWork := by
  refine ⟨fun s hf hst hr => ?_, fun s hf hst => execResetStation_listen hf hst⟩
  have hx := execResetStation_takes hf hst
  have hclears := resetStation_clears s
  have hpart := resetStation_part s
  have hreports := resetStation_reports s
  generalize resetStation s = u at hx hclears hpart hreports
  have hcalm : ({ u with link := s.answering ⟨0x0F, []⟩ .ok [] } : State).calm := by
    rw [hclears]
    exact ⟨hr, Phase.noConfusion⟩
  have hset := finish_settles _ s hcalm
  refine ⟨_, hx, ?_, fun q => (settles_part hset q).trans (hpart q), fun hroom => ?_⟩
  · have hfree := settles_free hset
    rw [hclears] at hfree ⊢
    exact hfree
  · obtain ⟨ht, -⟩ := hset
    rw [ht]
    exact hreports hroom
end

section
/-! HOLD and RESUME (R46 to R48, R130): O26. -/

namespace Sys2Proof.Machine

variable {s u : State}

/-! ### HOLD -/

theorem execHold_takes (hf : s.front = some ⟨0x07, []⟩) (hj : s.seq.station = .run ∨ s.seq.station = .held) :
    exec .hold s = .next
      (if s.seq.station = .run then finish s (answer .ok [] (enterHeld s)) else answer .ok [] s) := by
  change execHold s = _
  rw [execHold, taking_of_front hf]
  change Host.Outcome.next (jobGate [.run, .held] _ s) = _
  rw [jobGate_takes (by rcases hj with h | h <;> simp [h]) (by rcases hj with h | h <;> simp [h])]

theorem execHold_run (hf : s.front = some ⟨0x07, []⟩) (hrun : s.seq.station = .run) :
    exec .hold s = .next (finish s { enterHeld s with link := s.answering ⟨0x07, []⟩ .ok [] }) := by
  have hlink : (enterHeld s).link = s.link := by simp [enterHeld]
  have hok := answer_eq (s := enterHeld s) (by rw [hlink]; exact head_of_front hf) .ok []
  rw [execHold_takes hf (.inl hrun), if_pos hrun, hok, State.answering, hlink]
  rfl

theorem execHold_held (hf : s.front = some ⟨0x07, []⟩) (hheld : s.seq.station = .held) :
    exec .hold s = .next { s with link := s.answering ⟨0x07, []⟩ .ok [] } := by
  rw [execHold_takes hf (.inr hheld), if_neg (by rw [hheld]; exact nofun), answer_eq (head_of_front hf)]

/-- No thread in hand, or one in CUT_TIP or DONE: HOLD leaves Threader Control as it is (R130). -/
theorem holdThread_stands (h : u.thr.request ≠ .thread ∨ u.thr.phase = .idle ∨ u.thr.phase = .cutTip ∨
    u.thr.phase = .done) : holdThread u = u := by
  rw [holdThread]
  rcases h with h | h | h | h
  · exact if_neg h
  all_goals rw [h]; exact ite_self _

/-- A thread past its CUT_TIP is stopped and held; its attempt is not counted (R130). -/
theorem holdThread_attempting (hreq : u.thr.request = .thread) (hp : u.thr.phase.attempting = true) :
    holdThread u =
      { u with
        thr := { u.thr with phase := .idle, held := true, cutter := false, anneal := false, valve := false
                            feed := false, timer := none, sagBlank := none }
        filters := u.filters.wireFollowed, coord := u.coord.released } := by
  have hhold : holdThread u = (endAttempt u).modThr fun t => { t with phase := .idle, held := true } := by
    rw [holdThread, if_pos hreq]
    cases hphase : u.thr.phase <;> rw [hphase] at hp
    case idle | cutTip | done => cases hp
  rw [hhold, endAttempt, followWireInputs_eq]
  rfl

/-- A settled station in HELD has the generator off (R92). -/
theorem settled_held (h : u.settled) (hheld : u.seq.station = .held) : u.gen.on = false := by
  obtain ⟨-, -, -, -, -, -, hon, -⟩ := h
  rw [hon]
  simp [State.generatorAllowed, hheld]

/-! ### RESUME -/

theorem execResume_held (hf : s.front = some ⟨0x08, []⟩) (hheld : s.seq.station = .held)
    (hleave : (leaveHeld s).link = s.link) :
    exec .resume s = .next (finish s { leaveHeld s with link := s.answering ⟨0x08, []⟩ .ok [] }) := by
  have hok := answer_eq (s := leaveHeld s) (by rw [hleave]; exact head_of_front hf) .ok []
  change execResume s = _
  rw [execResume, taking_of_front hf]
  change Host.Outcome.next (jobGate [.held] (fun s => finish s (answer .ok [] (leaveHeld s))) s) = _
  rw [jobGate_takes (by simp [hheld]) (by simp [hheld]), hok, State.answering, hleave]
  rfl

/-- The station back in RUN with the latch empty. -/
def State.resumed (s : State) : State := { s with seq := { s.seq with station := .run, owed := none } }

theorem leaveHeld_owes_nothing (h : s.seq.owed = none) : leaveHeld s = resumeThread s.resumed := by
  rw [leaveHeld, h]
  rfl

theorem leaveHeld_owes (o : OwedStep) (h : s.seq.owed = some o) : leaveHeld s = doOwed o s.resumed := by
  rw [leaveHeld, h]
  rfl

theorem resumeThread_goes_on (hheld : u.thr.held = false) (hskip : u.thr.request = .thread → u.seq.skipOwed = false) :
    resumeThread u = u := by
  rw [resumeThread, if_neg, if_neg (by simp [hheld])]
  rintro ⟨hreq, howed⟩
  exact Bool.false_ne_true ((hskip hreq).symm.trans howed)

/-- A held thread starts again at CUT_TIP with its count kept (R130). -/
theorem resumeThread_restarts (hheld : u.thr.held = true) (hskip : u.seq.skipOwed = false)
    (hc : u.filters.cutterDone.level = .clear) :
    resumeThread u = { u with thr := { u.thr.cutting with held := false }, filters := u.filters.cutTip } := by
  rw [resumeThread, if_neg (by simp [hskip]), if_pos hheld, enterCutTip_eq (by exact hc)]
  rfl

/-- The wire cut that HELD owed (R47). -/
theorem doOwed_wireCut (hreq : u.thr.request = .off) (hc : u.filters.cutterDone.level = .clear) :
    doOwed .wireCut u =
      { u with seq := { u.seq with activity := some .wireCutting }, thr := u.thr.severing
               filters := u.filters.cutTip } := by
  rw [doOwed, requestCut_off (by exact hreq) (by exact hc)]
  rfl

/-- A RESUME that leaves `u`, and its answer, at the end of its event. -/
theorem resume_ends (hf : s.front = some ⟨0x08, []⟩) (hheld : s.seq.station = .held) (hu : leaveHeld s = u)
    (hlink : u.link = s.link) (hcalm : u.calm) :
    ∃ t, exec .resume s = .next t ∧ State.settles s { u with link := s.answering ⟨0x08, []⟩ .ok [] } t := by
  have hx := execResume_held hf hheld (by rw [hu]; exact hlink)
  rw [hu] at hx
  exact ⟨_, hx, finish_settles _ s hcalm⟩

end Sys2Proof.Machine

open Sys2Proof Sys2Proof.Machine

/-- Settles O26: HOLD by the phase of the thread it finds, RESUME by the step it finds owed. -/
theorem holdAndResumeKeepTheWork : Obligations.HoldAndResumeKeepTheWork := by
  refine ⟨⟨fun s hf hrun hr hthread hwait => ?_, fun s hf hrun hr hreq hphase => ?_, fun s hf hheld =>
    execHold_held hf hheld⟩, fun s hf hheld hcalm howed hthread hskip => ?_,
    fun s hf hheld hr howed hthread hskip hc => ?_, fun s hf hheld hr howed hreq hc => ?_⟩
  · have hx := execHold_run hf hrun
    rw [enterHeld, holdThread_stands (by exact hthread)] at hx
    have hset := finish_settles
      { s with seq := { s.seq with station := .held }, link := s.answering ⟨0x07, []⟩ .ok [] } s ⟨hr, hwait⟩
    refine ⟨_, hx, hset, ?_⟩
    obtain ⟨hseq, -⟩ := settles_rest hset
    obtain ⟨-, hsettled, -⟩ := hset
    exact settled_held hsettled (congrArg Sequencer.station hseq)
  · have hx := execHold_run hf hrun
    rw [enterHeld, holdThread_attempting (by exact hreq) (by exact hphase)] at hx
    exact ⟨_, hx, finish_settles _ s ⟨hr, Phase.noConfusion⟩⟩
  · have hleave := (leaveHeld_owes_nothing howed).trans (resumeThread_goes_on hthread hskip)
    exact resume_ends hf hheld hleave rfl hcalm
  · have hleave := (leaveHeld_owes_nothing howed).trans (resumeThread_restarts hthread hskip hc)
    obtain ⟨t, hx, hset⟩ := resume_ends hf hheld hleave rfl ⟨hr, Phase.noConfusion⟩
    obtain ⟨-, hthr, -⟩ := settles_rest hset
    exact ⟨t, hx, hset, by rw [hthr]; rfl⟩
  · have hleave := (leaveHeld_owes .wireCut howed).trans (doOwed_wireCut hreq hc)
    exact resume_ends hf hheld hleave rfl ⟨hr, Phase.noConfusion⟩
end

section
/-! A notice with the own station number (R53, R58, R157, R160): O56. -/

namespace Sys2Proof.Machine

variable {s : State} {frame : List Byte} {n : Notice}

/-- A halt on DUPLICATE_STATION with no walk in progress is the block shape of R58, with the Port silenced (R157). -/
theorem haltStation_duplicate (hw : s.walking = false) :
    haltStation .duplicateStation s = silencePort (s.afterHalt .duplicateStation) := by
  have hwalk : endWalkHalted (closeWindow (stopThreader (flush s))) = closeWindow (stopThreader (flush s)) :=
    if_neg (by simp [hw])
  have hstop := stopWork_eq s
  obtain ⟨hn, hr⟩ := interruptCurrent_congr (s := s) (t := closeWindow (stopThreader (flush s))) .halt
    (by rw [hstop]) (by rw [hstop]) (by rw [hstop]) (by rw [hstop])
  have hrest := interruptCurrent_rest .halt s
  rw [haltStation, hwalk, interruptCurrent_rest, hn, hr, hstop, State.afterHalt, State.workStopped]
  generalize interruptCurrent .halt s = v at hrest ⊢
  rw [hrest]
  rfl

/-- What a halt reads does not include the Cell Line Port. -/
theorem afterHalt_port (code : HaltCode) (p : CellPort) :
    ({ s with port := p } : State).afterHalt code = { s.afterHalt code with port := p } := by
  obtain ⟨hn, hr⟩ := interruptCurrent_congr (s := s) (t := { s with port := p }) .halt rfl rfl rfl rfl
  apply State.eq_of_fields
  case h4 => exact hn
  case h20 => exact queueReport_reports_congr hr (by simp)
  all_goals rfl

theorem readsBack_not_sending (h : s.port.tx ≠ .sending) (frame : List Byte) : s.readsBack frame = false := by
  simp [State.readsBack, h]

theorem lineActivity_eq (h : s.seq.station ≠ .powerDown) :
    lineActivity s = { s with port := { s.port with idle := 0 } } :=
  if_neg fun hd => h hd.1

/-- An arrival with the own number that carries no claim or hold (R160). -/
theorem execNoticeArrival_own (hn : noticeOf frame = some n) (hown : n.station = s.straps.station.val)
    (hj : n.jet = .off) (htx : s.port.tx ≠ .sending) (hd : s.seq.station ≠ .powerDown) :
    exec (.noticeArrival frame) s = .next (finish s
      (if s.seq.station.takesDuplicate then
        haltStation .duplicateStation { s with port := { s.port with idle := 0 } }
      else { s with port := { s.port with idle := 0 } })) := by
  rw [exec, execNoticeArrival, readsBack_not_sending htx, if_neg Bool.false_ne_true, if_neg hd, hn]
  dsimp only
  rw [if_pos hown, lineActivity_eq hd, ownNumberNotice, seeNotice, if_pos hj]

end Sys2Proof.Machine

open Sys2Proof Sys2Proof.Machine

/-- Settles O56: the halt of R58 and the Port's silence, which no due notice ends; in HALTED the arrival is line
activity alone. -/
theorem ownNumberHaltsAndSilences : Obligations.OwnNumberHaltsAndSilences := by
  intro s frame n hr hn hown hj hw htx
  refine ⟨fun hst => ?_, fun hst hwait => ?_⟩
  · have htakes : s.seq.station.takesDuplicate = true := by rcases hst with h | h | h | h <;> rw [h] <;> rfl
    have hd : s.seq.station ≠ .powerDown := by rcases hst with h | h | h | h <;> rw [h] <;> exact nofun
    have hx := execNoticeArrival_own hn hown hj htx hd
    rw [if_pos htakes, haltStation_duplicate (by exact hw), afterHalt_port] at hx
    have hset := finish_settles _ s (show State.calm (silencePort { s.afterHalt .duplicateStation with
      port := { s.port with idle := 0 } }) from afterHalt_calm (code := .duplicateStation) hr)
    have hport : (finish s (silencePort { s.afterHalt .duplicateStation with
        port := { s.port with idle := 0 } })).port =
        { s.port with idle := 0, tx := .silent, due := false, line := none, frame := none } := by
      obtain ⟨-, -, -, -, -, -, -, hport⟩ := hset
      rw [hport]
      exact ite_self _
    exact ⟨_, hx, hset, by rw [hport], by rw [hport]⟩
  · have hx := execNoticeArrival_own hn hown hj htx (by rw [hst]; exact nofun)
    rw [hst] at hx
    exact ⟨_, hx, finish_settles _ s ⟨hr, hwait⟩⟩
end

section
/-! The Job Link Port, discards and the requests that are refused (R59, R151, R169 to R171): O19 and O20. -/

namespace Sys2Proof.Machine

variable {s : State} {r : Request}

/-! ### Arrivals and discards -/

theorem execRequestArrival_good {frame : List Byte} (hr : requestOf frame = some r) (hd : s.seq.station ≠ .powerDown) :
    exec (.requestArrival frame) s = .next (bufferRequest r s) := by
  rw [exec, execRequestArrival, hr]
  dsimp only
  rw [if_neg hd]

theorem execRequestArrival_bad {frame : List Byte} (hr : requestOf frame = none) :
    exec (.requestArrival frame) s = .next (hunt s) := by
  rw [exec, execRequestArrival, hr]

theorem bufferRequest_room (h : s.link.buffer.length < 2) :
    bufferRequest r s = { s with link := { s.link with buffer := s.link.buffer ++ [r] } } := by
  rw [bufferRequest, State.modLink, if_pos h]

theorem bufferRequest_full (h : 2 ≤ s.link.buffer.length) :
    bufferRequest r s = { s with link := { s.link with overflow := true } } := by
  rw [bufferRequest, State.modLink, if_neg (Nat.not_lt.2 h)]

theorem hunt_eq (hd : s.seq.station ≠ .powerDown) : hunt s = { s with link := { s.link with hunting := true } } :=
  if_neg hd

/-- In POWER_DOWN the idle time runs until the one transmission has ended (R60). -/
theorem lineActivity_sounding (h : s.port.tx ≠ .quiet) :
    lineActivity s = { s with port := { s.port with idle := 0 } } :=
  if_neg fun hq => h hq.2

theorem lineActivity_quiet (hd : s.seq.station = .powerDown) (h : s.port.tx = .quiet) : lineActivity s = s :=
  if_pos ⟨hd, h⟩

/-- A frame that is no notice, and in POWER_DOWN any frame, is line activity alone (R151). -/
theorem execNoticeArrival_discards {frame : List Byte} (htx : s.port.tx ≠ .sending)
    (h : s.seq.station = .powerDown ∨ noticeOf frame = none) :
    exec (.noticeArrival frame) s = .next (lineActivity s) := by
  rw [exec, execNoticeArrival, readsBack_not_sending htx, if_neg Bool.false_ne_true]
  rcases h with hd | hn
  · rw [if_pos hd]
  · rw [hn]
    exact congrArg Host.Outcome.next (ite_self _)

theorem execResponseSent_frees {rest : List Request} {p : Response} (hb : s.link.buffer = r :: rest)
    (hp : s.link.response = some p) (hd : s.seq.station ≠ .powerDown) :
    exec .responseSent s = .next { s with link := { s.link with buffer := rest, response := none } } := by
  rw [exec, execResponseSent, if_pos ⟨by rw [hp]; rfl, hd⟩, State.modLink, hb]
  rfl

theorem execUnknownRequest_answers (hf : s.front = some r) (hp : r.parse = .unknown) :
    exec .unknownRequest s = .next { s with link := s.answering r .unknown [] } := by
  rw [exec, execUnknownRequest, taking_of_front hf, hp]
  exact congrArg Host.Outcome.next (answer_eq (head_of_front hf) _ _)

/-! ### Requests by their code and length (R171, R183) -/

theorem parse_loadPath (hc : r.code = 0x03) (hl : 2 ≤ r.payload.length) (hm : (r.payload.length - 2) % 20 = 0) :
    ∃ start rs, r.parse = .loadPath start rs := by
  simp [Request.parse, hc, hl, hm, Config.recordBytes]

theorem parse_skipPart_of (hc : r.code = 0x0A) (hl : r.payload.length = 1) :
    r.parse = .skipPart (leNat r.payload) := by
  simp [Request.parse, hc, hl]

/-- The gate of a request that HALTED and the present state do not let through (R59, R171). -/
theorem jobGate_refuses (hf : s.front = some r) (takenIn : List Station) (body : State → State) :
    (s.seq.station = .halted → jobGate takenIn body s = { s with link := s.answering r .halted [] }) ∧
    (s.seq.station ≠ .halted → s.seq.station ∉ takenIn →
      jobGate takenIn body s = { s with link := s.answering r .refusedState [] }) := by
  rw [← answer_eq (head_of_front hf), ← answer_eq (head_of_front hf)]
  exact ⟨fun h => if_pos h, fun h hn => (if_neg h).trans (if_neg hn)⟩

/-- A command that runs its request through a gate is refused as the gate refuses. -/
theorem exec_refuses {c : Instr} {takenIn : List Station} (hf : s.front = some r)
    (hx : ∃ body, exec c s = .next (jobGate takenIn body s)) :
    (s.seq.station = .halted → exec c s = .next { s with link := s.answering r .halted [] }) ∧
    (s.seq.station ≠ .halted → s.seq.station ∉ takenIn →
      exec c s = .next { s with link := s.answering r .refusedState [] }) := by
  obtain ⟨body, hx⟩ := hx
  obtain ⟨hhalted, hstate⟩ := jobGate_refuses hf takenIn body
  exact ⟨fun h => by rw [hx, hhalted h], fun h hn => by rw [hx, hstate h hn]⟩

end Sys2Proof.Machine

open Sys2Proof Sys2Proof.Machine

/-- Settles O19, arrival by arrival; a good frame by the room it finds, a discard by the station it finds. -/
theorem arrivalsFillTheBufferAndResponsesFreeIt : Obligations.ArrivalsFillTheBufferAndResponsesFreeIt := by
  refine ⟨fun s frame r hr hd => ⟨fun h => ?_, fun h => ?_⟩, fun s hd => ⟨?_, ?_, fun frame hr => ?_, ?_,
    fun frame hn htx => ?_, ?_⟩, fun s hd => ⟨fun hq => ⟨?_, fun frame htx => ?_⟩, fun hq => ⟨?_, fun frame => ?_⟩⟩,
    fun s r rest p hb hp hd => execResponseSent_frees hb hp hd, fun s r hf hp => execUnknownRequest_answers hf hp⟩
  · rw [execRequestArrival_good hr hd, bufferRequest_room h]
  · rw [execRequestArrival_good hr hd, bufferRequest_full h]
  · rw [exec, execJobLinkFrameDiscard, hunt_eq hd]
  · rw [exec, execJobLinkByteTimeout, hunt_eq hd]
  · rw [execRequestArrival_bad hr, hunt_eq hd]
  · rw [exec, execCellFrameDiscard, lineActivity_eq hd]
  · rw [execNoticeArrival_discards htx (.inr hn), lineActivity_eq hd]
  · rw [exec, execSpacingTimerExpiry, if_neg hd]
    rfl
  · rw [exec, execCellFrameDiscard, lineActivity_sounding hq]
  · rw [execNoticeArrival_discards htx (.inl hd), lineActivity_sounding hq]
  · rw [exec, execCellFrameDiscard, lineActivity_quiet hd hq]
  · rw [execNoticeArrival_discards (by rw [hq]; exact nofun) (.inl hd), lineActivity_quiet hd hq]

/-- Settles O20: each request goes through the gate of R171 with the states that take it. -/
theorem haltedAndUntimelyRequestsAreRefused : Obligations.HaltedAndUntimelyRequestsAreRefused := by
  intro s r c states hf hreq
  have ht := taking_of_front hf
  refine exec_refuses hf ?_
  rcases hreq with ⟨rfl, hc, hl, rfl⟩ | ⟨rfl, hc, hl, rfl⟩ | ⟨rfl, hc, hl, hm, rfl⟩ | ⟨rfl, hc, hl, rfl⟩ |
    ⟨rfl, rfl, rfl⟩ | ⟨rfl, rfl, rfl⟩ | ⟨rfl, rfl, rfl⟩ | ⟨rfl, rfl, rfl⟩ | ⟨rfl, rfl, rfl⟩ | ⟨rfl, hc, hl, rfl⟩
  · rw [exec, execSetup, ht, parse_setup hc hl]
    exact ⟨_, rfl⟩
  · rw [exec, execLoadCondition, ht, parse_loadCondition hc hl]
    exact ⟨_, rfl⟩
  · obtain ⟨start, rs, hp⟩ := parse_loadPath hc hl hm
    rw [exec, execLoadPath, ht, hp]
    exact ⟨_, rfl⟩
  · rw [exec, execLoadPart, ht, parse_loadPart hc hl]
    exact ⟨_, rfl⟩
  · rw [exec, execClearStore, ht]
    exact ⟨_, rfl⟩
  · rw [exec, execStartJob, ht]
    exact ⟨_, rfl⟩
  · rw [exec, execHold, ht]
    exact ⟨_, rfl⟩
  · rw [exec, execResume, ht]
    exact ⟨_, rfl⟩
  · rw [exec, execAbort, ht]
    exact ⟨_, rfl⟩
  · rw [exec, execSkipPart, ht, parse_skipPart_of hc hl]
    exact ⟨_, rfl⟩
end

section
/-! The dry length that an EMISSION gives the segment it places (R73): O44. -/

namespace Sys2Proof.Machine

/-! ### The dry length by the place of the segment against the dry target -/

section
variable {g : PathPoint} {pass : Pass} {ordinal length : Nat}

theorem dryLength_earlier_pass (h : pass.code < g.pass.code) : dryLength (some g) pass ordinal length = length :=
  if_pos h

theorem dryLength_later_pass (h : g.pass.code < pass.code) : dryLength (some g) pass ordinal length = 0 :=
  (if_neg (Nat.lt_asymm h)).trans (if_neg (Nat.ne_of_gt h))

/-- In the pass of the target the ordinals decide. -/
theorem dryLength_target_pass : dryLength (some g) g.pass ordinal length =
    if ordinal < g.ordinal then length else if ordinal = g.ordinal then min g.progress length else 0 :=
  (if_neg (Nat.lt_irrefl _)).trans (if_pos rfl)

theorem dryLength_earlier_ordinal (h : ordinal < g.ordinal) : dryLength (some g) g.pass ordinal length = length :=
  dryLength_target_pass.trans (if_pos h)

theorem dryLength_target : dryLength (some g) g.pass g.ordinal length = min g.progress length :=
  dryLength_target_pass.trans ((if_neg (Nat.lt_irrefl _)).trans (if_pos rfl))

theorem dryLength_later_ordinal (h : g.ordinal < ordinal) : dryLength (some g) g.pass ordinal length = 0 :=
  dryLength_target_pass.trans ((if_neg (Nat.lt_asymm h)).trans (if_neg (Nat.ne_of_gt h)))

end

/-! ### The entry that an emission places -/

/-- What a reading ends with either is no entry, and changes nothing, or is the one entry that the queue gains: a
segment with the dry length of its place, or a STOP or FAULT entry, which is no segment (R72, R73). -/
theorem placeTaken_places_dry (part : PartNo) (e : Emission) (r : Placed) (s : State) :
    placeTaken part e r s = s ∨
    ∃ entry, (placeTaken part e r s).queue = s.queue ++ [entry] ∧
      (entry.isPath = true → entry.dry = dryLength s.fetch.target entry.pass entry.ordinal entry.length) := by
  obtain ⟨at_, taken⟩ := r
  cases taken with
  | on => exact .inl rfl
  | segment => exact .inr ⟨_, rfl, fun _ => rfl⟩
  | stop tab => exact .inr ⟨_, rfl, fun hpath => by cases tab <;> cases hpath⟩
  | fault => exact .inr ⟨_, rfl, fun hpath => nomatch hpath⟩

/-- An emission that changes the state places one entry, and a segment with the dry length of its place. -/
theorem execEmission_places_dry {s t : State} (h : execEmission s = .next t) (hne : t ≠ s) :
    ∃ entry, t.queue = s.queue ++ [entry] ∧
      (entry.isPath = true → entry.dry = dryLength s.fetch.target entry.pass entry.ordinal entry.length) := by
  rcases execEmission_cases h with hidle | ⟨part, e, r, rfl⟩
  · exact absurd hidle hne
  · exact (placeTaken_places_dry part e r s).resolve_left hne

end Sys2Proof.Machine

open Sys2Proof Sys2Proof.Machine

/-- Settles O44: the segment placed has the dry length of R73, which is read off by its pass and ordinal against the
dry target's. -/
theorem placedSegmentsHaveTheirDryLength : Obligations.PlacedSegmentsHaveTheirDryLength := by
  intro s t h hne
  obtain ⟨e, hqueue, hdry⟩ := execEmission_places_dry h hne
  refine ⟨e, hqueue, fun hpath => ⟨fun hnone => ?_, fun g hsome => ?_⟩⟩
  · rw [hdry hpath, hnone, dryLength]
  · rw [hdry hpath, hsome]
    refine ⟨dryLength_earlier_pass, ?_, ?_, ?_, dryLength_later_pass⟩
    · intro hpass hlt
      rw [hpass, dryLength_earlier_ordinal hlt]
    · intro hpass hord
      rw [hpass, hord, dryLength_target]
    · intro hpass hgt
      rw [hpass, dryLength_later_ordinal hgt]
end

section
/-! What the end of an event leaves of Generator Control, the Gap Monitor and the Cell Line Port: every event ends
settled, never raises L at its end, and leaves a notice due where what it would say has changed (R82, R86 to R93, R156,
R161). -/

namespace Sys2Proof.Machine

variable {b s t u : State}

/-! ### The end of an event, one induction for all it leaves -/

/-- A mismatch event, and ANNEAL_WAIT's test, write neither Generator Control nor the Gap Monitor nor the Cell Line
Port; what every conclusion of such an effect keeps stands at the end of the event. -/
theorem finish_keeps {P : State → Prop} (hfirst : P (conclude b u))
    (hnext : ∀ s x : State, x.gen = s.gen → x.gap = s.gap → x.port = s.port → P s → P (conclude s x)) :
    P (finish b u) := by
  have hdrain : ∀ (n : Nat) (s : State), P s → P (drain n s) := by
    intro n
    induction n with
    | zero => exact fun _ hs => hs
    | succ n ih =>
      intro s hs
      rw [drain]
      split
      · exact hs
      · exact ih _ (hnext _ _ (by simp) (by simp) (by simp) hs)
  have hquiet : P (quiesce b u) := hdrain 16 _ hfirst
  exact hdrain 16 _ (hnext _ _ (by simp) (by simp) (by simp) hquiet)

/-- A state as every event leaves it: settled, with the period in progress marked by an asserted enable output (R82). -/
def State.ended (t : State) : Prop := t.settled ∧ (t.gen.on = true → t.gap.mark = true)

theorem conclude_ended (b u : State) : (conclude b u).ended :=
  ⟨conclude_settled u b, fun hon => by rw [← conclude_mark, hon, Bool.or_true]⟩

theorem finish_ended (b u : State) : (finish b u).ended :=
  finish_keeps (conclude_ended b u) fun s x _ _ _ _ => conclude_ended s x

theorem finish_settled (b u : State) : (finish b u).settled := by
  obtain ⟨hsettled, -⟩ := finish_ended b u
  exact hsettled

/-- What the end of an event that left `u` may do: L falls, the period is marked, and the arc guard, the station total,
the capture and the frame in transmission stand. -/
structure EndsFrom (u t : State) : Prop where
  level : t.gen.level ≤ u.gen.level
  total : t.gen.total = u.gen.total
  stretch : t.gen.stretch = u.gen.stretch
  arcFree : t.gen.arcFree = u.gen.arcFree
  gap : t.gap = { u.gap with mark := t.gap.mark }
  mark : u.gap.mark = true → t.gap.mark = true
  frame : t.port.frame = u.port.frame

theorem EndsFrom.trans (h : EndsFrom s u) (k : EndsFrom u t) : EndsFrom s t where
  level := k.level.trans h.level
  total := k.total.trans h.total
  stretch := k.stretch.trans h.stretch
  arcFree := k.arcFree.trans h.arcFree
  gap := by rw [k.gap, h.gap]
  mark := k.mark ∘ h.mark
  frame := k.frame.trans h.frame

@[simp] theorem setDue_frame_port (s : State) : (setDue s).port.frame = s.port.frame := by
  simp only [setDue, State.modPort]
  split <;> rfl

theorem conclude_endsFrom (b u : State) : EndsFrom u (conclude b u) := by
  have hgen := derive_gen u
  have hgap := derive_gap u
  rw [conclude]
  refine ⟨?_, ?_, ?_, ?_, ?_, ?_, ?_⟩
  case refine_7 => rw [announce]; split <;> simp
  all_goals simp only [announce_frame]
  case refine_1 => rw [hgen]; exact Nat.min_le_left _ _
  case refine_2 | refine_3 | refine_4 => rw [hgen]
  case refine_5 => rw [hgap]
  case refine_6 => rw [hgap]; exact fun hm => by rw [hm]; rfl

theorem finish_endsFrom (b u : State) : EndsFrom u (finish b u) :=
  finish_keeps (conclude_endsFrom b u) fun s x hgen hgap hport hs =>
    have hx : EndsFrom s x := by constructor <;> simp [hgen, hgap, hport]
    (hs.trans hx).trans (conclude_endsFrom s x)

/-! ### The notice that falls due (R156) -/

/-- A notice is due, or the Port is SILENT and has none. -/
def State.dueOrSilent (t : State) : Prop := t.port.due = true ∨ t.port.tx = .silent

/-- What a notice would say has not changed, or one is due. -/
def Announces (b t : State) : Prop := noticeChanged b t = true → t.dueOrSilent

theorem setDue_dueOrSilent (s : State) : (setDue s).dueOrSilent := by
  simp only [State.dueOrSilent, setDue, State.modPort]
  cases h : s.port.tx <;> simp [h]

theorem conclude_announces (b u : State) : Announces b (conclude b u) := by
  intro hchanged
  rw [conclude, announce] at hchanged ⊢
  split
  · exact setDue_dueOrSilent _
  · rename_i hsame
    rw [if_neg hsame] at hchanged
    exact absurd hchanged hsame

/-- A due mark set stays through the conclusion of an effect that leaves the Port. -/
theorem conclude_dueOrSilent (b : State) (h : u.dueOrSilent) : (conclude b u).dueOrSilent := by
  rw [conclude, announce]
  split
  · exact setDue_dueOrSilent _
  · simpa [State.dueOrSilent] using h

/-- What a notice would say has not changed twice, so it has not changed. -/
theorem noticeChanged_trans (h : noticeChanged b t = true) : noticeChanged b s = true ∨ noticeChanged s t = true := by
  by_contra hsame
  simp only [noticeChanged, Bool.or_eq_true, bne_iff_ne] at h hsame
  grind

theorem finish_announces (b u : State) : Announces b (finish b u) :=
  finish_keeps (conclude_announces b u) fun s x _ _ hport hs hchanged => by
    rcases noticeChanged_trans hchanged with hbefore | hnow
    · exact conclude_dueOrSilent s (by rw [State.dueOrSilent, hport]; exact hs hbefore)
    · exact conclude_announces s x hnow

end Sys2Proof.Machine
end

section
/-! What each command leaves of the values that follow from others (R86 to R93, R161) and of the announced level
(R89): it concludes an event, or leaves all that those values read, or is one of the three of power. -/

namespace Sys2Proof.Machine

variable {s t u : State}

/-- L is no higher than D, and than the draw of a notice in transmission (R89). -/
def State.levelAnnounced (s : State) : Prop :=
  s.gen.level ≤ s.coord.drawn ∧ ∀ n, s.port.frame = some n → s.gen.level ≤ n.draw

/-- L has at most fallen, against the same D and the same frame in transmission. -/
theorem State.levelAnnounced.of_le (h : s.levelAnnounced) (hlevel : u.gen.level ≤ s.gen.level)
    (hdrawn : u.coord.drawn = s.coord.drawn) (hframe : u.port.frame = s.port.frame ∨ u.port.frame = none) :
    u.levelAnnounced := by
  obtain ⟨hd, hf⟩ := h
  refine ⟨by omega, fun n hn => ?_⟩
  rcases hframe with hs | hnone
  · exact hlevel.trans (hf n (hs ▸ hn))
  · rw [hnone] at hn
    exact absurd hn nofun

/-- This station has no entry of its own in the peer table (R158). -/
def State.ownAbsent (s : State) : Prop := s.peer s.straps.station = none

theorem State.ownAbsent.of_same (h : s.ownAbsent) (hstraps : u.straps = s.straps)
    (hpeers : u.coord.peers = s.coord.peers) : u.ownAbsent := by
  rw [State.ownAbsent, State.peer, hstraps, hpeers]
  exact h

/-- The effect of an event that began in `s`, before its end: L is announced and the own entry absent as they were. -/
structure Effect (s u : State) : Prop where
  level : s.underCeiling → u.levelAnnounced
  absent : s.ownAbsent → u.ownAbsent

/-- An effect on none of the blocks that L and the own entry rest on. -/
theorem Effect.of_same
    (h : u.straps = s.straps ∧ u.gen = s.gen ∧ u.coord.peers = s.coord.peers ∧ u.coord.drawn = s.coord.drawn ∧
      (u.port.frame = s.port.frame ∨ u.port.frame = none)) : Effect s u := by
  obtain ⟨hstraps, hgen, hpeers, hdrawn, hframe⟩ := h
  exact ⟨fun ⟨_, hs⟩ => State.levelAnnounced.of_le hs (by rw [hgen]) hdrawn hframe,
    fun hs => hs.of_same hstraps hpeers⟩

/-- A command that leaves all that the following values read, or in IDLE, where no condition is in use, the
Condition Table alone rewritten; the frame in transmission stands, is given up, or is the notice of this moment. -/
structure Stands (s t : State) : Prop where
  straps : t.straps = s.straps
  conds : t.conds = s.conds ∨ s.seq.station = .idle
  gen : t.gen = s.gen
  thr : t.thr = s.thr
  station : t.seq.station = s.seq.station
  activity : t.seq.activity = s.seq.activity
  coord : t.coord = { s.coord with refresh := t.coord.refresh }
  frame : t.port.frame = s.port.frame ∨ t.port.frame = none ∨ t.port.frame = some s.notice

/-- A command on none of the blocks that the following values read. -/
theorem Stands.of_same
    (h : t.straps = s.straps ∧ t.conds = s.conds ∧ t.gen = s.gen ∧ t.thr = s.thr ∧ t.seq.station = s.seq.station ∧
      t.seq.activity = s.seq.activity ∧ t.coord = s.coord ∧ t.port.frame = s.port.frame) : Stands s t := by
  obtain ⟨hstraps, hconds, hgen, hthr, hstation, hactivity, hcoord, hframe⟩ := h
  exact ⟨hstraps, .inl hconds, hgen, hthr, hstation, hactivity, by rw [hcoord], .inl hframe⟩

/-- What a command can leave. -/
inductive Leaves (s : State) : State → Prop
  | concluded {u : State} : Effect s u → Leaves s (finish s u)
  | stands {t : State} : Stands s t → Leaves s t
  | restarted {t : State} {n : Fin 8} {p f : Fin 16} : execPowerOn n p f s = .next t → Leaves s t
  | powersDown : Leaves s (enterPowerDown s)
  | lastFrame {n : Notice} : s.seq.station = .powerDown → s.port.frame = some n → Leaves s (completeLastFrame n s)

theorem Leaves.self (s : State) : Leaves s s := .stands (.of_same (by simp))

/-! ### The requests -/

theorem answer_leaves (st : Status) (bytes : List Byte) : Leaves s (answer st bytes s) :=
  .stands (.of_same (by simp))

/-- A request refused is answered; else its body says what it leaves (R171). -/
theorem jobGate_leaves {takenIn : List Station} {body : State → State}
    (hbody : s.seq.station ∈ takenIn → Leaves s (body s)) : Leaves s (jobGate takenIn body s) := by
  rw [jobGate]
  split
  · exact answer_leaves _ _
  · split
    · exact hbody ‹_›
    · exact answer_leaves _ _

/-- The outcome of a part writes neither the station state nor the activity. -/
theorem finishPart_seq (p : PartNo) (st : PartState) (c : Option Cause) (s : State) :
    (finishPart p st c s).seq.station = s.seq.station ∧ (finishPart p st c s).seq.activity = s.seq.activity := by
  rw [finishPart]
  split <;> exact ⟨rfl, rfl⟩

theorem skipOther_leaves (p : PartNo) : Leaves s (skipOther p s) := by
  rw [skipOther]
  split
  case h_1 | h_2 | h_3 => exact .stands (.of_same (by simp [finishPart_seq]))
  all_goals exact answer_leaves _ _

theorem skipCurrent_leaves : Leaves s (skipCurrent s) := by
  rw [skipCurrent]
  split
  · exact .concluded (.of_same (by simp))
  · exact .stands (.of_same (by simp))

theorem leaveHeld_effect (s : State) : Effect s (leaveHeld s) := by
  refine .of_same ?_
  rw [leaveHeld]
  split
  · simp only [doOwed]
    split <;> simp
  · simp only [resumeThread]
    (repeat' split) <;> simp

/-- RESET STATION puts L at 0 and gives up no entry (R62). -/
theorem resetStation_effect (s : State) : Effect s (answer .ok [] (resetStation s)) := by
  have hgen : (resetStation s).gen.level = 0 := by rw [resetStation_clears]; rfl
  have hstraps : (resetStation s).straps = s.straps := by rw [resetStation_clears]; rfl
  have hpeers : (resetStation s).coord.peers = s.coord.peers := by rw [resetStation_clears]; rfl
  refine ⟨fun _ => ?_, fun h => h.of_same (by simp [hstraps]) (by simp [hpeers])⟩
  simp [State.levelAnnounced, hgen]

/-! ### The cell -/

/-- The notice that a transmission starts with carries the draw target (R155). -/
theorem startFrame_effect (s : State) : Effect s (startFrame s) := by
  refine ⟨fun ⟨hdraw, hdrawn, _⟩ => ⟨hdrawn, fun n hn => ?_⟩, fun h => h⟩
  cases hn
  exact hdraw

/-- D becomes the draw of the frame, which L does not exceed (R89, R153). -/
theorem completeFrame_effect {n : Notice} (hframe : s.port.frame = some n) : Effect s (completeFrame n s) := by
  have hblocks : (completeFrame n s).straps = s.straps ∧ (completeFrame n s).gen = s.gen ∧
      (completeFrame n s).coord.peers = s.coord.peers ∧ (completeFrame n s).coord.drawn = n.draw ∧
      (completeFrame n s).port.frame = none := by
    rw [completeFrame]
    split <;> simp [apply_ite Coordination.peers, apply_ite Coordination.drawn]
  obtain ⟨hstraps, hgen, hpeers, hdrawn, hnone⟩ := hblocks
  refine ⟨fun ⟨_, _, hF⟩ => ⟨?_, fun m hm => ?_⟩, fun h => h.of_same hstraps hpeers⟩
  · rw [hgen, hdrawn]
    exact hF n hframe
  · rw [hnone] at hm
    exact absurd hm nofun

theorem Effect.after (h : Effect s u) (hlevel : u.levelAnnounced → t.levelAnnounced)
    (habsent : u.ownAbsent → t.ownAbsent) : Effect s t := ⟨hlevel ∘ h.level, habsent ∘ h.absent⟩

/-- What the model recomputes inside an event can lower L, and leaves D, the frame and the peer table. -/
theorem Effect.derived (h : Effect s u) : Effect s (derive u) :=
  h.after
    (fun hu => hu.of_le (by rw [derive_gen]; exact Nat.min_le_left _ _) (by simp) (.inl (by simp)))
    (fun hu => hu.of_same (by simp) (by simp))

/-- An effect followed by one on none of the blocks that L and the own entry rest on. -/
theorem Effect.then_same (h : Effect s u)
    (hsame : t.straps = u.straps ∧ t.gen = u.gen ∧ t.coord.peers = u.coord.peers ∧ t.coord.drawn = u.coord.drawn ∧
      (t.port.frame = u.port.frame ∨ t.port.frame = none)) : Effect s t := by
  obtain ⟨hstraps, hgen, hpeers, hdrawn, hframe⟩ := hsame
  exact h.after (fun hu => hu.of_le (by rw [hgen]) hdrawn hframe) (fun hu => hu.of_same hstraps hpeers)

theorem returnLine_same (s : State) :
    (returnLine s).straps = s.straps ∧ (returnLine s).gen = s.gen ∧ (returnLine s).coord.peers = s.coord.peers ∧
      (returnLine s).coord.drawn = s.coord.drawn ∧ (returnLine s).port = s.port := by
  rcases returnLine_cases s with ⟨-, h⟩ | ⟨-, h⟩ <;> rw [h] <;> simp

theorem restoreLine_effect (h : Effect s u) : Effect s (restoreLine u) := by
  rw [restoreLine]
  split
  · have hreturned : Effect s (returnLine u) := h.then_same (by simp [returnLine_same])
    exact hreturned.derived.then_same (by simp)
  · exact h

theorem transmissionComplete_leaves : Answers (Leaves s) (execTransmissionComplete s) := by
  rw [execTransmissionComplete, answers_next]
  split
  next n _ hframe =>
    split
    next hdown => exact .lastFrame hdown hframe
    next => exact .concluded ((restoreLine_effect (completeFrame_effect hframe)).then_same (by simp [endSending]))
  next => exact .self s

theorem enterDegraded_same (s : State) :
    (enterDegraded s).straps = s.straps ∧ (enterDegraded s).gen = s.gen ∧
      (enterDegraded s).coord.peers = s.coord.peers ∧ (enterDegraded s).coord.drawn = s.coord.drawn ∧
      (enterDegraded s).port = s.port := by
  rw [enterDegraded]
  split <;> simp

/-- The entry of a peer, whose number is not the own, is written (R158). -/
theorem Effect.peerSet (h : Effect s u) {m : StationNo} (hm : m ≠ u.straps.station) (e : Option Peer) :
    Effect s (setPeer m e u) := by
  refine h.after (fun hu => hu) fun hu => ?_
  have hv : m.val ≠ u.straps.station.val := fun hc => hm (Fin.ext hc)
  simpa [State.ownAbsent, State.peer, setPeer, hv] using hu

/-- An entry made absent, the own one among them (R159). -/
theorem Effect.peerLost (h : Effect s u) (m : StationNo) : Effect s (setPeer m none u) := by
  by_cases hm : m = u.straps.station
  · exact h.after (fun hu => hu) fun _ => by simp [State.ownAbsent, State.peer, setPeer, hm]
  · exact h.peerSet hm none

theorem seeNotice_same (n : Notice) (s : State) :
    (seeNotice n s).straps = s.straps ∧ (seeNotice n s).gen = s.gen ∧ (seeNotice n s).coord.peers = s.coord.peers ∧
      (seeNotice n s).coord.drawn = s.coord.drawn ∧ (seeNotice n s).port = s.port := by
  rw [seeNotice]
  split <;> simp

theorem lineActivity_same (s : State) :
    (lineActivity s).straps = s.straps ∧ (lineActivity s).conds = s.conds ∧ (lineActivity s).gen = s.gen ∧
      (lineActivity s).thr = s.thr ∧ (lineActivity s).seq = s.seq ∧ (lineActivity s).coord = s.coord ∧
      (lineActivity s).port.frame = s.port.frame := by
  rw [lineActivity]
  split <;> simp

theorem lineActivity_leaves : Leaves s (lineActivity s) := .stands (.of_same (by simp [lineActivity_same]))

theorem Effect.seen (h : Effect s u) (n : Notice) : Effect s (seeNotice n u) := h.then_same (by simp [seeNotice_same])

theorem Effect.granted (h : Effect s u) : Effect s (grantTest u) := h.then_same (by simp)

theorem Effect.yielded (h : Effect s u) (m : StationNo) (n : Notice) : Effect s (conflictTest m n u) := by
  rw [conflictTest]
  split
  · exact h.then_same (by simp)
  · exact h

theorem Effect.noticeTaken (h : Effect s u) {m : StationNo} (hm : m ≠ u.straps.station) (n : Notice) :
    Effect s (peerNotice m n u) := by
  rw [peerNotice]
  refine ((((?_ : Effect s _).peerSet ?_ _).seen n).derived.granted).yielded m n
  · split
    · exact h.then_same (by simp)
    · exact h
  · split <;> exact hm

/-- A DUPLICATE_STATION halt gives up the frame in transmission (R157). -/
theorem haltStation_duplicate_frame (s : State) : (haltStation .duplicateStation s).port.frame = none := by
  rw [haltStation]
  rfl

theorem Effect.ownNumber (h : Effect s u) (n : Notice) : Effect s (ownNumberNotice n u) := by
  rw [ownNumberNotice]
  split
  · exact (h.seen n).then_same (by simp [haltStation_duplicate_frame])
  · exact h.seen n

/-- A notice that is taken names one of the eight stations (R182). -/
theorem noticeOf_station {frame : List Byte} {n : Notice} (h : noticeOf frame = some n) : n.station < 8 := by
  simp only [noticeOf] at h
  split at h
  next hframe =>
    obtain ⟨-, -, hstation⟩ := hframe
    split at h
    · cases h
      exact hstation
    · cases h
  next => cases h

theorem noticeArrival_leaves (frame : List Byte) : Answers (Leaves s) (execNoticeArrival frame s) := by
  have hline : Effect s (lineActivity s) := .of_same (by simp [lineActivity_same])
  rw [execNoticeArrival, answers_next]
  split
  · exact .self s
  split
  · exact lineActivity_leaves
  split
  · exact lineActivity_leaves
  next n hn =>
    split
    next => exact .concluded (hline.ownNumber n)
    next hother =>
      refine .concluded (hline.noticeTaken (fun hown => hother ?_) n)
      rw [(lineActivity_same s).1] at hown
      rw [← hown]
      exact (Nat.mod_eq_of_lt (noticeOf_station hn)).symm

/-! ### The servo period -/

theorem ceiling_le_drawn (s : State) : s.ceiling ≤ s.coord.drawn := by
  rw [State.ceiling]
  split
  · exact Nat.min_le_left _ _
  · exact Nat.le_refl _

theorem ceiling_le_frame {n : Notice} (h : s.port.frame = some n) : s.ceiling ≤ n.draw := by
  rw [State.ceiling, State.inFlight, h]
  exact Nat.min_le_right _ _

/-- The report of a period raises L to the ceiling at most (R89). -/
theorem periodReport_level (u : State) : (periodReport u).gen.level ≤ max u.gen.level u.ceiling := by
  have hceiling (v : State) (hc : v.coord = u.coord) (hp : v.port = u.port) : v.ceiling = u.ceiling := by
    rw [State.ceiling, State.ceiling, State.inFlight, State.inFlight, hc, hp]
  have hraise (v : State) : (switchGenerator (raiseLevel (recomputeLevels v))).gen.level ≤
      max v.gen.level v.ceiling := by
    show max (min v.gen.level v.levelTarget) (min v.levelTarget (recomputeLevels v).ceiling) ≤ _
    rw [show (recomputeLevels v).ceiling = v.ceiling from rfl]
    omega
  rw [periodReport]
  refine (hraise _).trans_eq ?_
  rw [hceiling _ (by simp) (by simp), dropCondition_gen]
  rfl

theorem Effect.reported (h : Effect s u) : Effect s (periodReport u) :=
  h.after
    (fun ⟨hdrawn, hframe⟩ => by
      have hlevel := periodReport_level u
      refine ⟨?_, fun n hn => ?_⟩
      · have hceiling := ceiling_le_drawn u
        have hsame : (periodReport u).coord.drawn = u.coord.drawn := by simp
        omega
      · have hn' : u.port.frame = some n := by simpa using hn
        have hceiling := ceiling_le_frame hn'
        have := hframe n hn'
        omega)
    (fun hu => hu.of_same (by simp) (by simp))

/-- A millisecond on, an absent entry is still absent; L, D and the frame stand (R159; log 5). -/
theorem ticked_effect (s : State) : Effect s s.ticked := by
  refine ⟨fun ⟨_, h⟩ => ?_, fun h => ?_⟩
  · exact State.levelAnnounced.of_le h (by rw [ticked_level]) rfl (.inl rfl)
  · have hnone : s.coord.peers[s.straps.station.val] = none := h
    simp [State.ownAbsent, State.peer, State.ticked, tick, hnone]

theorem servoPeriodExpiry_leaves : Answers (Leaves s) (exec .servoPeriodExpiry s) := by
  by_cases hd : s.seq.station = .powerDown
  · rw [exec, execServoPeriodExpiry, if_pos hd, answers_next]
    exact .self s
  · rw [servo_eq hd (Prod.mk.eta).symm, answers_next, State.periodEnd]
    have hmoved : Effect s (creditPart s.frontIsCurrent s.gap.mark (motion s.ticked).1) :=
      (ticked_effect s).then_same (by simp)
    exact .concluded (hmoved.reported.then_same (by simp))

/-! ### The commands -/

/-- Two samples end an event with what the owner of the input does, or set its filter alone (R134, R135). -/
theorem sampleInput_leaves (i : Input) (a b : Level) : Leaves s (sampleInput i a b s) := by
  rw [sampleInput]
  split
  · exact .self s
  · dsimp only
    split
    · exact .stands (.of_same (by simp))
    · split
      · exact .concluded (.of_same (by simp))
      · exact .stands (.of_same (by simp))

/-- An emission that ends writes the Path Fetcher and the Segment Queue alone. -/
theorem emission_leaves : Answers (Leaves s) (execEmission s) := by
  intro t ht
  rcases execEmission_cases ht with rfl | ⟨part, e, r, rfl⟩
  · exact .self _
  · refine .stands (.of_same ?_)
    rw [placeTaken]
    split <;> simp [place]

/-- A table of IDLE rewritten: no condition is in use there (R86). -/
theorem Stands.of_idle (hidle : s.seq.station = .idle)
    (h : t.straps = s.straps ∧ t.gen = s.gen ∧ t.thr = s.thr ∧ t.seq = s.seq ∧ t.coord = s.coord ∧ t.port = s.port) :
    Stands s t := by
  obtain ⟨hstraps, hgen, hthr, hseq, hcoord, hport⟩ := h
  exact ⟨hstraps, .inr hidle, hgen, hthr, by rw [hseq], by rw [hseq], by rw [hcoord], .inl (by rw [hport])⟩

theorem skipPart_leaves : Answers (Leaves s) (execSkipPart s) := by
  rw [execSkipPart, answers_next]
  split
  · refine jobGate_leaves fun _ => ?_
    split
    · split
      · exact skipCurrent_leaves
      · exact skipOther_leaves _
    · exact answer_leaves _ _
  · exact .self s

/-- What every command leaves. -/
theorem exec_leaves (c : Instr) : Answers (Leaves s) (exec c s) := by
  have hself : Leaves s s := .self s
  cases c with
  | powerOn n p f => exact fun t ht => .restarted ht
  | powerWarn =>
    rw [exec, execPowerWarn, answers_next]
    split
    case h_5 | h_6 => exact hself
    all_goals exact .powersDown
  | servoPeriodExpiry => exact servoPeriodExpiry_leaves
  | emission => exact emission_leaves
  | skipPart => exact skipPart_leaves
  | transmissionComplete => exact transmissionComplete_leaves
  | noticeArrival frame => exact noticeArrival_leaves frame
  | cellFrameDiscard => exact (answers_next _ _).2 lineActivity_leaves
  | dropInputChange l m | limitInput l m | wireLowInput l m | cutterDone l m | supplySag l m | contact l m
      | tensionOkChange l m =>
    exact (answers_next _ _).2 (sampleInput_leaves _ l m)
  | setup | loadPath | loadPart | startJob =>
    simp only [exec, execSetup, execLoadPath, execLoadPart, execStartJob, answers_next]
    split
    · refine jobGate_leaves fun _ => ?_
      (repeat' split) <;> exact .stands (.of_same (by simp [writeRecords]))
    · exact hself
  | loadCondition | clearStore =>
    simp only [exec, execLoadCondition, execClearStore, answers_next]
    split
    · refine jobGate_leaves fun hin => .stands (.of_idle (List.mem_singleton.1 hin) ?_)
      (repeat' split) <;> simp [clearTables]
    · exact hself
  | hold =>
    rw [exec, execHold, answers_next]
    split
    · refine jobGate_leaves fun _ => ?_
      split
      · exact .concluded (.of_same (by simp [enterHeld]))
      · exact answer_leaves _ _
    · exact hself
  | resume =>
    rw [exec, execResume, answers_next]
    split
    · exact jobGate_leaves fun _ => .concluded ((leaveHeld_effect s).then_same (by simp))
    · exact hself
  | abort =>
    rw [exec, execAbort, answers_next]
    split
    · exact jobGate_leaves fun _ => .concluded (.of_same (by simp [abortJob]))
    · exact hself
  | resetStation =>
    rw [exec, execResetStation, answers_next]
    split
    · split
      · exact answer_leaves _ _
      · exact .concluded (resetStation_effect s)
    · exact hself
  | validationWalkEnd =>
    rw [exec, execValidationWalkEnd, answers_next]
    split
    · dsimp only
      split
      · exact .stands (.of_same (by simp))
      · exact .concluded (.of_same (by simp [enterRun]))
    · exact hself
  | readStatus | readPart | readPeers | readReports | unknownRequest | responseSent | requestArrival
      | jobLinkFrameDiscard | jobLinkByteTimeout | pulseMeasurement | spacingTimerExpiry =>
    simp only [exec, execReadStatus, execReadPart, execReadPeers, execReadReports, execUnknownRequest,
      execResponseSent, execRequestArrival, execJobLinkFrameDiscard, execJobLinkByteTimeout, hunt, bufferRequest,
      execPulseMeasurement, execSpacingTimerExpiry, answers_next]
    (repeat' split) <;> exact .stands (.of_same (by simp))
  | refreshTimerExpiry =>
    rw [exec, execRefreshTimerExpiry, answers_next]
    split
    · exact .stands ⟨rfl, .inl rfl, rfl, rfl, rfl, rfl, rfl, .inl (setDue_frame_port _)⟩
    · exact hself
  | transmitStart idle =>
    rw [exec, execTransmitStart, answers_next]
    (repeat' split)
    · exact .stands ⟨rfl, .inl rfl, rfl, rfl, rfl, rfl, rfl, .inr (.inr rfl)⟩
    · exact .concluded (startFrame_effect s)
    · exact hself
  | collision =>
    rw [exec, execCollision, answers_next]
    (repeat' split)
    · exact .stands ⟨rfl, .inl rfl, rfl, rfl, rfl, rfl, rfl, .inr (.inl rfl)⟩
    · exact .concluded (.of_same (by simp [countCollision]))
    · exact hself
  | peerExpiry n =>
    have hlost : Effect s (setPeer n none s) := Effect.peerLost (.of_same (by simp)) n
    have hreported := hlost.then_same (t := queueReport .peerLost none none n.val (setPeer n none s)) (by simp)
    rw [exec, execPeerExpiry, answers_next]
    split
    · exact .concluded hreported.derived.granted
    · exact hself
  | lineTimerExpiry =>
    rw [exec, execLineTimerExpiry, answers_next]
    split
    · exact .concluded (.of_same (by simp [enterDegraded_same]))
    · exact hself
  | listenTimerExpiry | settleTimerExpiry | dropWindowExpiry | cutTipTimeout | sagBlankExpiry
      | annealExpiry | jetWaitLimitExpiry | feedTimeout | tensionTimeout | tensionCheckExpiry =>
    simp only [exec, execListenTimerExpiry, execSettleTimerExpiry, execDropWindowExpiry,
      execCutTipTimeout, execSagBlankExpiry, execAnnealExpiry, execJetWaitLimitExpiry, execFeedTimeout,
      execTensionTimeout, execTensionCheckExpiry, sagWatch, answers_next]
    split
    · exact .concluded (.of_same (by simp))
    · exact hself

end Sys2Proof.Machine
end

section
/-! Every command leaves a settled state settled (O6), keeps L under its ceiling (O7), and leaves a notice due where
what it would say has changed; the allowances and the targets by their formulas (O59). -/

namespace Sys2Proof.Machine

variable {s t u : State}

/-! ### Settled states -/

theorem Stands.coord_eq (h : Stands s t) :
    t.coord.peers = s.coord.peers ∧ t.coord.mode = s.coord.mode ∧ t.coord.ap = s.coord.ap ∧
      t.coord.af = s.coord.af ∧ t.coord.drawn = s.coord.drawn ∧ t.coord.jet = s.coord.jet ∧
      t.coord.stamp = s.coord.stamp := by
  rw [h.coord]
  exact ⟨rfl, rfl, rfl, rfl, rfl, rfl, rfl⟩

theorem Stands.settled (h : Stands s t) (hs : s.settled) : t.settled := by
  obtain ⟨hpeers, hmode, hap, haf, -⟩ := h.coord_eq
  obtain ⟨h1, h2, h3, h4, h5, h6, h7, h8, h9⟩ := hs
  have hconds : s.gen.cond = none ∨ t.conds = s.conds := by
    refine h.conds.symm.imp_left fun hidle => Classical.byContradiction fun hc => ?_
    rcases (h9 (.inl hc)).1 with hst | hst <;> exact absurd (hidle.symm.trans hst) nofun
  have hcuts : t.cuttingNow = s.cuttingNow := by rw [State.cuttingNow, State.cuttingNow, h.station, h.activity]
  have hlevel : t.levelTarget = s.levelTarget := by
    rcases hconds with hc | hc <;> simp [State.levelTarget, State.condition, hcuts, h.gen, hap, haf, hc]
  have hflush : t.flushTarget = s.flushTarget := by
    rcases hconds with hc | hc <;> simp [State.flushTarget, State.condition, hcuts, h.gen, haf, hc]
  have hoff : t.offTimeOutput = s.offTimeOutput := by
    rcases hconds with hc | hc <;> simp [State.offTimeOutput, State.condition, h.gen, hc]
  have hdraw : t.drawTarget = s.drawTarget := by
    rw [State.drawTarget, State.drawTarget, State.heavy, State.heavy, hcuts, hlevel, h.thr]
  have hallowed : t.generatorAllowed = s.generatorAllowed := by
    rw [State.generatorAllowed, State.generatorAllowed, h.thr, h.gen, h.station, h.activity]
  rw [State.settled, powerAllowance_congr h.straps hpeers hmode, flushAllowance_congr h.straps hpeers hmode, hlevel,
    hflush, hoff, hdraw, hallowed, hap, haf, h.gen, h.station, h.activity]
  exact ⟨h1, h2, h3, h4, h5, h6, h7, h8, h9⟩

theorem execPowerOn_settled {n : Fin 8} {p f : Fin 16} (h : execPowerOn n p f s = .next t) : t.settled := by
  obtain ⟨nest, reports, hx, -⟩ := execPowerOn_next n p f s
  cases hx.symm.trans h
  obtain ⟨hap, haf⟩ := allowances_alone (s := { State.poweredOn ⟨n, p, f⟩ with
    store := s.store, conds := s.conds, setup := s.setup, nest := nest, pending := s.pending
    exe := Executor.poweredOn s.exe.position, reports := reports
    coord := { Coordination.poweredOn with ap := min 15 (budget p), af := min 15 (budget f) } }) rfl rfl
  exact ⟨hap.symm, haf.symm, rfl, Nat.le_refl _, rfl, rfl, rfl, rfl, fun hc => hc.elim (absurd rfl) (absurd rfl)⟩

theorem enterPowerDown_settled (s : State) : (enterPowerDown s).settled := by
  rw [enterPowerDown_eq]
  exact derive_settled s.powerStopped

/-- In POWER_DOWN nothing but the allowances follows from the line mode. -/
theorem completeLastFrame_settled (hd : s.seq.station = .powerDown) (n : Notice) (hs : s.settled) :
    (completeLastFrame n s).settled := by
  obtain ⟨ht, hdegraded, hnormal⟩ := completeLastFrame_eq n s
  generalize completeLastFrame n s = t at ht hdegraded hnormal ⊢
  have hallow : t.coord.ap = t.powerAllowance ∧ t.coord.af = t.flushAllowance := by
    cases hmode : s.coord.mode with
    | degraded => exact hdegraded hmode
    | normal =>
      obtain ⟨hap, haf⟩ := hnormal hmode
      obtain ⟨h1, h2, -⟩ := hs
      rw [hap, haf, h1, h2]
      constructor
      · exact (powerAllowance_congr (by rw [ht]) (by rw [ht]) (by rw [ht, hmode])).symm
      · exact (flushAllowance_congr (by rw [ht]) (by rw [ht]) (by rw [ht, hmode])).symm
  have hseq : t.seq = s.seq := by rw [ht]
  have hgen : t.gen = s.gen := by rw [ht]
  have hthr : t.thr = s.thr := by rw [ht]
  have hoff : t.offTimeOutput = s.offTimeOutput := by rw [ht]; rfl
  have hcuts (v : State) (hv : v.seq = s.seq) : v.cuttingNow = false := by simp [State.cuttingNow, hv, hd]
  obtain ⟨-, -, h3, h4, h5, h6, h7, h8, h9⟩ := hs
  refine ⟨hallow.1, hallow.2, ?_, ?_, ?_, ?_, ?_, ?_, ?_⟩
  · rw [hgen, h3, State.levelTarget, State.levelTarget, hcuts s rfl, hcuts t hseq]
  · rw [hgen]; exact h4
  · rw [hgen, h5, State.drawTarget, State.drawTarget, hcuts s rfl, hcuts t hseq, State.heavy, State.heavy, hthr]; rfl
  · rw [hgen, h6, State.flushTarget, State.flushTarget, hcuts s rfl, hcuts t hseq]
  · rw [hgen, h7, State.generatorAllowed, State.generatorAllowed, hgen, hthr, hseq]
  · rw [hgen, h8, hoff]
  · rw [hgen, hseq]; exact h9

theorem Leaves.settled (h : Leaves s t) (hs : s.settled) : t.settled := by
  cases h with
  | concluded _ => exact finish_settled s _
  | stands h => exact h.settled hs
  | restarted h => exact execPowerOn_settled h
  | powersDown => exact enterPowerDown_settled s
  | lastFrame hd _ => exact completeLastFrame_settled hd _ hs

/-- A settled state has the generator on only where R92 lets it. -/
theorem settled_generatorSafe (h : t.settled) : t.generatorSafe := by
  obtain ⟨-, -, -, -, -, -, hon, -⟩ := h
  intro hg
  rw [hon] at hg
  simpa [State.generatorAllowed, isCutting, and_assoc] using hg

/-! ### The announced level -/

/-- In a settled state L is at most the draw target. -/
theorem settled_level_le_draw (h : t.settled) : t.gen.level ≤ t.gen.draw := by
  obtain ⟨-, -, htarget, hlevel, hdraw, -⟩ := h
  rw [htarget] at hlevel
  rw [hdraw, State.drawTarget]
  split
  · exact hlevel
  next hc =>
    have hzero : t.levelTarget = 0 := by simp [State.levelTarget, hc]
    omega

theorem Stands.underCeiling (h : Stands s t) (hs : s.underCeiling) : t.underCeiling := by
  obtain ⟨-, -, -, -, hdrawn, -⟩ := h.coord_eq
  obtain ⟨hdraw, hD, hF⟩ := hs
  rw [State.underCeiling, h.gen, hdrawn]
  refine ⟨hdraw, hD, fun n hn => ?_⟩
  rcases h.frame with hf | hf | hf <;> rw [hf] at hn
  · exact hF n hn
  · exact absurd hn nofun
  · cases hn
    exact hdraw

theorem Leaves.underCeiling (h : Leaves s t) (hs : s.underCeiling) : t.underCeiling := by
  cases h with
  | @concluded u he =>
    have hend := finish_endsFrom s u
    have hann : (finish s u).levelAnnounced := (he.level hs).of_le hend.level (by simp) (.inl hend.frame)
    exact ⟨settled_level_le_draw (finish_settled s u), hann⟩
  | stands h => exact h.underCeiling hs
  | @restarted _ n p f h =>
    obtain ⟨nest, reports, hx, -⟩ := execPowerOn_next n p f s
    cases hx.symm.trans h
    exact ⟨Nat.zero_le _, Nat.zero_le _, nofun⟩
  | powersDown =>
    have hlevel : (enterPowerDown s).gen.level = 0 := by
      rw [enterPowerDown_eq]
      exact (settled_idle (derive_settled s.powerStopped) (by rw [derive_rest]; rfl)).2
    simp [State.underCeiling, hlevel]
  | @lastFrame n _ hframe =>
    obtain ⟨hdraw, -, hF⟩ := hs
    obtain ⟨ht, -⟩ := completeLastFrame_eq n s
    rw [ht]
    exact ⟨hdraw, hF n hframe, nofun⟩

/-! ### The own entry (R158) -/

theorem Leaves.ownAbsent (h : Leaves s t) (hs : s.ownAbsent) : t.ownAbsent := by
  cases h with
  | concluded he => exact (he.absent hs).of_same (by simp) (by simp)
  | stands h => exact hs.of_same h.straps h.coord_eq.1
  | @restarted _ n p f h =>
    obtain ⟨nest, reports, hx, -⟩ := execPowerOn_next n p f s
    cases hx.symm.trans h
    simp [State.ownAbsent, State.peer, Coordination.poweredOn]
  | powersDown =>
    have hreleased : s.coord.released.peers = s.coord.peers := by rw [Coordination.released]; split <;> rfl
    rw [enterPowerDown_eq]
    exact hs.of_same (by simp [portPowerDown, State.powerStopped, State.workStopped])
      (by simpa [portPowerDown, State.powerStopped, State.workStopped] using hreleased)
  | @lastFrame n _ _ =>
    obtain ⟨ht, -⟩ := completeLastFrame_eq n s
    rw [ht]
    exact hs

/-! ### The notice due (R156) -/

theorem noticeChanged_same
    (h : t.seq.station = s.seq.station ∧ t.seq.activity = s.seq.activity ∧ t.gen = s.gen ∧ t.thr = s.thr ∧
      t.coord.jet = s.coord.jet ∧ t.coord.stamp = s.coord.stamp) : noticeChanged s t = false := by
  obtain ⟨hstation, hactivity, hgen, hthr, hjet, hstamp⟩ := h
  simp [noticeChanged, State.phase, State.heavy, State.announcedStamp, hstation, hactivity, hgen, hthr, hjet, hstamp]

theorem Leaves.announces (h : Leaves s t) : Announces s t := by
  cases h with
  | concluded _ => exact finish_announces s _
  | stands h =>
    obtain ⟨-, -, -, -, -, hjet, hstamp⟩ := h.coord_eq
    intro hc
    rw [noticeChanged_same ⟨h.station, h.activity, h.gen, h.thr, hjet, hstamp⟩] at hc
    cases hc
  | @restarted _ n p f h =>
    obtain ⟨nest, reports, hx, -⟩ := execPowerOn_next n p f s
    cases hx.symm.trans h
    exact fun _ => .inl rfl
  | powersDown => exact fun _ => .inl rfl
  | @lastFrame n _ _ =>
    obtain ⟨ht, -⟩ := completeLastFrame_eq n s
    intro hc
    rw [noticeChanged_same (by rw [ht]; exact ⟨rfl, rfl, rfl, rfl, rfl, rfl⟩)] at hc
    cases hc

end Sys2Proof.Machine

open Sys2Proof Sys2Proof.Machine

/-- Settles O6: every command leaves a settled state settled, and a settled state has the generator on only where R92
lets it. -/
theorem stepKeepsFollowingValues : Obligations.StepKeepsFollowingValues := by
  intro s t hs ht
  have hset : t.settled := by
    obtain rfl | ⟨c, rest, -, hc⟩ := step_cases ht
    · exact hs
    · exact (exec_leaves c t hc).settled hs
  exact ⟨hset, settled_generatorSafe hset⟩

/-- Settles O7: L is raised by the period's report alone, to the ceiling at most, and D and the frame in transmission
carry no less. -/
theorem stepKeepsLevelUnderCeiling : Obligations.StepKeepsLevelUnderCeiling := by
  intro s t hs ht
  obtain rfl | ⟨c, rest, -, hc⟩ := step_cases ht
  · exact hs
  · exact (exec_leaves c t hc).underCeiling hs
end

section
/-! The allowances by the fresh peers, and the targets of a settled state by their formulas (R87, R90, R91, R93, R161):
O59. -/

namespace Sys2Proof.Machine

variable {s t : State}

/-! ### The allowances (R161) -/

/-- The entries of the fresh peers, without their station numbers. -/
theorem freshPeers_entries (s : State) :
    s.freshPeers.map Prod.snd =
      (List.finRange 8).filterMap fun n => (s.peer n).filter fun p => p.phase != .halted := by
  rw [State.freshPeers, List.map_filterMap]
  congr 1
  funext n
  cases s.peer n with
  | none => rfl
  | some p => by_cases hp : p.phase = .halted <;> simp [Option.filter, hp]

theorem works_eq (a : Announced) :
    a.works = (a == .moving || a == .threading || a == .cutting || a == .separating || a == .recovering) := by
  cases a <;> rfl

/-- N counts the fresh peers at work, and this station. -/
theorem sharers_eq (s : State) :
    s.sharers = 1 + ((s.freshPeers.map Prod.snd).filter fun p =>
      p.phase == .moving || p.phase == .threading || p.phase == .cutting || p.phase == .separating ||
        p.phase == .recovering).length := by
  rw [State.sharers, List.filter_map, List.length_map]
  simp only [works_eq, Function.comp_def]

/-- A station whose entry is fresh (R159). -/
def State.freshAt (s : State) (n : StationNo) : Bool := ((s.peer n).filter fun p => p.phase != .halted).isSome

theorem freshPeers_length (s : State) : s.freshPeers.length = List.countP s.freshAt (List.finRange 8) := by
  rw [← List.length_map (f := Prod.snd), freshPeers_entries, List.length_filterMap_eq_countP]
  rfl

/-- With the own entry absent there are seven fresh peers at most. -/
theorem sharers_le (h : s.ownAbsent) : s.sharers ≤ 8 := by
  have hall := List.length_eq_countP_add_countP s.freshAt (l := List.finRange 8)
  have hown : 0 < List.countP (fun n => decide ¬s.freshAt n = true) (List.finRange 8) :=
    List.countP_pos_iff.2
      ⟨s.straps.station, List.mem_finRange _, by simp [State.freshAt, show s.peer _ = none from h]⟩
  have hfresh := freshPeers_length s
  rw [List.length_finRange] at hall
  have hfilter := List.length_filter_le (fun p : StationNo × Peer => p.2.phase.works) s.freshPeers
  rw [State.sharers]
  omega

theorem budget_ge (code : Fin 16) : 8 ≤ budget code := by
  rw [budget]
  split
  · decide
  next hne =>
    have hpos : code.val ≠ 0 := fun hz => hne (Fin.ext hz)
    omega

/-- An allowance is never below the eighth of its budget, nor 0, and at most 15. -/
theorem allowance_bounds (mode : LineMode) (code : Fin 16) {n : Nat} (announced : Nat) (hpos : 0 < n) (hle : n ≤ 8) :
    1 ≤ min 15 (budget code / 8) ∧ min 15 (budget code / 8) ≤ allowance mode (budget code) n announced ∧
      allowance mode (budget code) n announced ≤ 15 := by
  have hbudget := budget_ge code
  have hshare : budget code / 8 ≤ budget code / n := Nat.div_le_div_left hle hpos
  cases mode <;> simp only [allowance] <;> omega

theorem sharers_pos (s : State) : 0 < s.sharers := by
  rw [State.sharers]
  omega

/-! ### The targets (R87, R90, R91, R93) -/

theorem cuttingNow_iff :
    s.cuttingNow = true ↔
      s.seq.station = .run ∧ (s.seq.activity = some .cutting ∨ s.seq.activity = some .separating) := by
  simp [State.cuttingNow, isCutting]

/-- Nothing asked of the generator leaves L at 0 and the generator off. -/
theorem settled_target_zero (h : s.settled) (hz : s.levelTarget = 0) :
    s.gen.target = 0 ∧ s.gen.level = 0 ∧ s.gen.on = false := by
  obtain ⟨-, -, htarget, hlevel, -, -, hon, -⟩ := h
  rw [htarget, hz, Nat.le_zero] at hlevel
  exact ⟨htarget.trans hz, hlevel, by simp [hon, State.generatorAllowed, hlevel]⟩

theorem settled_cutting (h : s.settled) (hc : s.cuttingNow = true) {c : CondNo} (hcond : s.gen.cond = some c) :
    let k := s.condition c
    s.gen.target = min k.lreq (min s.coord.ap (max 1 (k.lreq * min s.coord.af k.freq / k.freq))) ∧
      s.gen.draw = s.gen.target ∧ s.gen.flush = min k.freq s.coord.af ∧
      s.gen.offTime = k.offBase * 2 ^ s.gen.stretch := by
  obtain ⟨-, -, htarget, -, hdraw, hflush, -, hoff, -⟩ := h
  refine ⟨?_, ?_, ?_, ?_⟩
  · simp [htarget, State.levelTarget, hc, hcond, levelFormula]
  · rw [hdraw, State.drawTarget, if_pos hc, htarget]
  · simp [hflush, State.flushTarget, hc, hcond]
  · rw [hoff, State.offTimeOutput, hcond]

theorem settled_no_condition (h : s.settled) (hc : s.cuttingNow = true) (hcond : s.gen.cond = none) :
    s.gen.target = 0 ∧ s.gen.level = 0 ∧ s.gen.on = false ∧ s.gen.flush = 0 ∧ s.gen.draw = 0 := by
  have hz : s.levelTarget = 0 := by simp [State.levelTarget, hcond]
  obtain ⟨htarget, hlevel, hon⟩ := settled_target_zero h hz
  obtain ⟨-, -, -, -, hdraw, hflush, -⟩ := h
  refine ⟨htarget, hlevel, hon, ?_, ?_⟩
  · simp [hflush, State.flushTarget, hcond]
  · rw [hdraw, State.drawTarget, if_pos hc, hz]

theorem settled_not_cutting (h : s.settled) (hc : s.cuttingNow = false) :
    s.gen.target = 0 ∧ s.gen.level = 0 ∧ s.gen.on = false ∧ s.gen.flush = 0 ∧
      s.gen.draw = if s.thr.phase = .annealWait ∨ s.thr.phase = .anneal then 6 else 0 := by
  have hz : s.levelTarget = 0 := by simp [State.levelTarget, hc]
  obtain ⟨htarget, hlevel, hon⟩ := settled_target_zero h hz
  obtain ⟨-, -, -, -, hdraw, hflush, -⟩ := h
  refine ⟨htarget, hlevel, hon, ?_, ?_⟩
  · simp [hflush, State.flushTarget, hc]
  · simp [hdraw, State.drawTarget, hc, State.heavy, Config.annealDraw]

/-! ### The notice -/

theorem noticeChanged_iff :
    noticeChanged s t = true ↔
      s.phase ≠ t.phase ∨ s.gen.draw ≠ t.gen.draw ∨ s.gen.flush ≠ t.gen.flush ∨ s.heavy ≠ t.heavy ∨
        s.coord.jet.announced ≠ t.coord.jet.announced ∨ s.announcedStamp ≠ t.announcedStamp := by
  simp [noticeChanged, or_assoc]

end Sys2Proof.Machine

open Sys2Proof Sys2Proof.Machine

/-- Settles O59: the allowances by the entries of the fresh peers, the targets by the settled values, the due mark by
the end of each event. -/
theorem allowancesAndTargetsFollowTheirFormulas : Obligations.AllowancesAndTargetsFollowTheirFormulas := by
  refine ⟨⟨fun s => ?_, fun s t hs ht => ?_⟩, fun s hset => ⟨fun hst ha => ?_, fun hn => ?_⟩,
    fun c s t hc hchanged => (exec_leaves c t hc).announces (noticeChanged_iff.2 hchanged)⟩
  · rw [← freshPeers_entries]
    refine ⟨fun hmode => ?_, fun hmode => ?_, fun hown => ?_⟩
    · rw [State.powerAllowance, State.flushAllowance, hmode, sharers_eq]
      simp only [List.map_map]
      exact ⟨rfl, rfl⟩
    · rw [State.powerAllowance, State.flushAllowance, hmode]
      exact ⟨rfl, rfl⟩
    · obtain ⟨hp1, hp2, hp3⟩ := allowance_bounds s.coord.mode s.straps.power
        (s.freshPeers.map fun p => p.2.draw).sum (sharers_pos s) (sharers_le hown)
      exact ⟨hp1, hp2, hp3, allowance_bounds s.coord.mode s.straps.flush _ (sharers_pos s) (sharers_le hown)⟩
  · obtain rfl | ⟨c, rest, -, hc⟩ := step_cases ht
    · exact hs
    · exact (exec_leaves c t hc).ownAbsent hs
  · have hcuts := cuttingNow_iff.2 ⟨hst, ha⟩
    exact ⟨fun c hcond => settled_cutting hset hcuts hcond, fun hcond => settled_no_condition hset hcuts hcond⟩
  · refine settled_not_cutting hset (Bool.eq_false_iff.2 fun hcuts => ?_)
    obtain ⟨hst, ha⟩ := cuttingNow_iff.1 hcuts
    rcases hn with hn | ⟨hn1, hn2⟩
    · exact hn hst
    · exact ha.elim hn1 hn2
end

section
/-! Pulses and the periods that count them: the classes of R81, the capture of R83, the arc guard and the station total
(R82, R93, R94): O34 and O41. -/

namespace Sys2Proof.Machine

variable {s t : State}

/-! ### The capture (R83) -/

theorem meanOf_eq (sum tally : Nat) : meanOf sum tally = (2 * sum + tally) / (2 * tally) := by
  rw [meanOf, roundDiv_of_nonneg (Int.natCast_nonneg _)]
  rfl

theorem openReading_eq (g : GapMonitor) :
    (g.openTally = 0 → g.capture.openReading = 0) ∧
      (0 < g.openTally → g.capture.openReading = (2 * g.openSum + g.openTally) / (2 * g.openTally)) := by
  refine ⟨fun h => if_pos h, fun h => ?_⟩
  rw [← meanOf_eq]
  exact if_neg (Nat.ne_of_gt h)

theorem capture_mean (g : GapMonitor) :
    (g.burnTally = 0 → g.capture.mean = g.capture.openReading) ∧
      (0 < g.burnTally → g.capture.mean = (2 * g.burnSum + g.burnTally) / (2 * g.burnTally)) := by
  refine ⟨fun h => if_pos h, fun h => ?_⟩
  rw [← meanOf_eq]
  exact if_neg (Nat.ne_of_gt h)

/-! ### The arc guard and the station total (R93, R94) -/

theorem guardTaken_unmarked {c : Capture} (h : c.mark = false) : guardTaken c s = s := by
  rw [guardTaken, h]
  rfl

theorem guardTaken_total {c : Capture} (h : c.mark = true) :
    (guardTaken c s).gen.total = min (s.gen.total + 1) 4294967295 := by
  rw [guardTaken, if_pos h]
  simp only [State.modGen]
  split
  · rfl
  · split <;> rfl

/-- An arcing period lengthens the off-time, to three steps at most. -/
theorem guardTaken_arcing {c : Capture} (h : c.mark = true) (ha : c.arcing = true) :
    (guardTaken c s).gen.stretch = min (s.gen.stretch + 1) 3 ∧ (guardTaken c s).gen.arcFree = 0 := by
  rw [guardTaken, if_pos h]
  simp [State.modGen, ha]

/-- A period free of arcing is counted, and the sixteenth in a row shortens the off-time. -/
theorem guardTaken_arcFree {c : Capture} (h : c.mark = true) (ha : c.arcing = false) :
    (s.gen.arcFree < 15 → (guardTaken c s).gen.stretch = s.gen.stretch ∧
      (guardTaken c s).gen.arcFree = s.gen.arcFree + 1) ∧
    (s.gen.arcFree = 15 → (guardTaken c s).gen.stretch = s.gen.stretch - 1 ∧ (guardTaken c s).gen.arcFree = 0) := by
  rw [guardTaken, if_pos h]
  simp only [State.modGen, ha, Bool.false_eq_true, if_false]
  refine ⟨fun hlt => ?_, fun heq => ?_⟩
  · rw [if_pos hlt]
    exact ⟨rfl, rfl⟩
  · rw [if_neg (by omega)]
    exact ⟨rfl, rfl⟩

theorem capture_arcing_iff (g : GapMonitor) :
    g.capture.arcing = true ↔ 0 < g.normal + g.arc + g.short ∧ g.normal + g.arc + g.short ≤ 8 * g.arc := by
  rw [Capture.arcing, Bool.and_eq_true, decide_eq_true_iff, decide_eq_true_iff]
  rfl

theorem capture_arcing_not (g : GapMonitor)
    (h : g.normal + g.arc + g.short = 0 ∨ 8 * g.arc < g.normal + g.arc + g.short) : g.capture.arcing = false := by
  refine Bool.eq_false_iff.2 fun ha => ?_
  obtain ⟨hpos, hle⟩ := (capture_arcing_iff g).1 ha
  omega

/-! ### The expiry -/

/-- The level raised and the generator switched leave the arc guard and the total, and mark the period. -/
theorem reported_stands (v : State) :
    let t := switchGenerator (raiseLevel (recomputeLevels (dropCondition v)))
    t.gen.total = v.gen.total ∧ t.gen.stretch = v.gen.stretch ∧ t.gen.arcFree = v.gen.arcFree ∧
      t.gap = { v.gap with mark := v.gap.mark || t.gen.on } := by
  intro t
  have hgap : (dropCondition v).gap = v.gap := by simp
  have hgen := dropCondition_gen v
  change (dropCondition v).gen.total = _ ∧ (dropCondition v).gen.stretch = _ ∧ (dropCondition v).gen.arcFree = _ ∧
    { (dropCondition v).gap with mark := (dropCondition v).gap.mark || t.gen.on } = _
  rw [hgap, hgen]
  exact ⟨rfl, rfl, rfl, rfl⟩

/-- The report of a period leaves the arc guard, the total and the capture, and no mark is taken away. -/
theorem periodReport_stands (u : State) :
    (periodReport u).gen.total = u.gen.total ∧ (periodReport u).gen.stretch = u.gen.stretch ∧
      (periodReport u).gen.arcFree = u.gen.arcFree ∧
      (periodReport u).gap = { u.gap with mark := u.gap.mark || (periodReport u).gen.on } :=
  reported_stands (u.modGen _)

/-- What an expiry leaves of the Gap Monitor and of the arc guard. -/
theorem servo_closes (hd : s.seq.station ≠ .powerDown) :
    ∃ t, exec .servoPeriodExpiry s = .next t ∧ t.now = s.now + 1 ∧
      t.gap = { GapMonitor.poweredOn with mark := t.gap.mark, last := s.gap.capture } ∧
      (s.gen.on = true ∨ t.gen.on = true → t.gap.mark = true) ∧
      t.gen.total = (guardTaken s.gap.capture s).gen.total ∧
      t.gen.stretch = (guardTaken s.gap.capture s).gen.stretch ∧
      t.gen.arcFree = (guardTaken s.gap.capture s).gen.arcFree := by
  have hx := servo_eq hd (Prod.mk.eta (p := motion s.ticked)).symm
  have hnow : (handOver (motion s.ticked).2 (s.periodEnd (motion s.ticked).1)).now = s.now + 1 := by
    simp [State.periodEnd, State.ticked]
  have hgen : (handOver (motion s.ticked).2 (s.periodEnd (motion s.ticked).1)).gen =
      (s.periodEnd (motion s.ticked).1).gen := by simp
  have hgap : (handOver (motion s.ticked).2 (s.periodEnd (motion s.ticked).1)).gap =
      (s.periodEnd (motion s.ticked).1).gap := by simp
  generalize handOver (motion s.ticked).2 (s.periodEnd (motion s.ticked).1) = u at hx hnow hgen hgap
  obtain ⟨htotal, hstretch, hfree, hreported⟩ :=
    periodReport_stands (creditPart s.frontIsCurrent s.gap.mark (motion s.ticked).1)
  simp only [creditPart_frame, motion_frame] at htotal hstretch hfree hreported
  obtain ⟨-, htotal', hstretch', hfree', hgap', hmark', -⟩ := finish_endsFrom s u
  obtain ⟨-, hon⟩ := finish_ended s u
  rw [hgen] at htotal' hstretch' hfree'
  rw [hgap, State.periodEnd, hreported] at hgap' hmark'
  refine ⟨_, hx, by simp [hnow], hgap', fun h => h.elim (fun hs => hmark' ?_) hon, htotal'.trans htotal,
    hstretch'.trans hstretch, hfree'.trans hfree⟩
  exact Bool.or_eq_true_iff.2 (.inl hs)

/-! ### Pulses (R81, R82) -/

/-- The tests of R81 in their order. -/
theorem classify_eq (d v : Nat) :
    (d = 255 → classify d v = .open_) ∧ (d ≠ 255 → v < 30 → classify d v = .short) ∧
      (d < 5 → 30 ≤ v → classify d v = .arc) ∧ (5 ≤ d → d ≠ 255 → 30 ≤ v → classify d v = .normal) := by
  refine ⟨fun hd => ?_, fun hd hv => ?_, fun hd hv => ?_, fun hd hd' hv => ?_⟩
  · rw [classify, if_pos hd]
  · rw [classify, if_neg hd, if_pos hv]
  · rw [classify, if_neg (by omega), if_neg (by omega), if_pos hd]
  · rw [classify, if_neg hd', if_neg (by omega), if_neg (by omega)]

/-- A measurement is recorded by its class. -/
theorem execPulseMeasurement_records (delay voltage : Byte) (hd : s.seq.station ≠ .powerDown) {p : Pulse}
    (hp : classify delay.toNat voltage.toNat = p) :
    exec (.pulseMeasurement delay voltage) s = .next { s with gap := s.gap.record p voltage.toNat } := by
  rw [exec, execPulseMeasurement, if_neg hd, hp]
  rfl

end Sys2Proof.Machine

open Sys2Proof Sys2Proof.Machine

/-- Settles O34: the period is closed before the motion, and what follows it writes neither the capture nor the arc
guard nor the total. -/
theorem periodClosesTheCapture : Obligations.PeriodClosesTheCapture := by
  intro s hd
  obtain ⟨t, hx, hnow, hgap, hmark, htotal, hstretch, hfree⟩ := servo_closes hd
  obtain ⟨hopen0, hopen⟩ := openReading_eq s.gap
  obtain ⟨hmean0, hmean⟩ := capture_mean s.gap
  have hguard (hm : s.gap.mark = true) (hn : _) := guardTaken_arcFree (s := s) hm (capture_arcing_not s.gap hn)
  refine ⟨t, hx, hnow, ?_⟩
  rw [htotal, hstretch, hfree]
  rw [hgap] at hmark ⊢
  refine ⟨rfl, rfl, rfl, rfl, rfl, rfl, rfl, hopen0, hopen, hmean0, hmean, rfl, rfl, rfl, rfl, rfl, rfl, rfl, rfl, rfl,
    rfl, hmark, fun hm => ?_, fun hm => guardTaken_total (c := s.gap.capture) hm,
    fun hm hpos hle => guardTaken_arcing hm ((capture_arcing_iff _).2 ⟨hpos, hle⟩),
    fun hm hn => (hguard hm hn).1, fun hm hn => (hguard hm hn).2⟩
  rw [guardTaken_unmarked (c := s.gap.capture) hm]
  exact ⟨rfl, rfl, rfl⟩

/-- Settles O41: the class of R81 by its tests in their order, and its record by R82. -/
theorem pulsesAreClassedAndCounted : Obligations.PulsesAreClassedAndCounted := by
  intro delay voltage s
  obtain ⟨hopen, hshort, harc, hnormal⟩ := classify_eq delay.toNat voltage.toNat
  refine ⟨fun hdown => ?_, fun hd => ⟨fun h => ?_, fun h hv => ?_, fun h hv => ?_, fun h h' hv => ?_⟩⟩
  · rw [exec, execPulseMeasurement, if_pos hdown]
  · exact execPulseMeasurement_records delay voltage hd (hopen h)
  · exact execPulseMeasurement_records delay voltage hd (hshort h hv)
  · exact execPulseMeasurement_records delay voltage hd (harc h hv)
  · exact execPulseMeasurement_records delay voltage hd (hnormal h h' hv)
end

section
/-! The start and the completion of a transmission in both line modes (R89, R152 to R156, R162, R164): O53. -/

namespace Sys2Proof.Machine

variable {s t u : State} {n : Notice}

/-! ### The start (R152) -/

theorem mayStart_iff (hs : s.port.spacing = none) (idle : Nat) :
    s.mayStart idle = true ↔ ∃ k ∈ s.idleNeeded, k ≤ idle := by
  rw [State.mayStart, hs]
  cases s.idleNeeded <;> simp

theorem execTransmitStart_starts (hs : s.port.spacing = none) (hd : s.seq.station ≠ .powerDown) {k idle : Nat}
    (hk : s.idleNeeded = some k) (hidle : k ≤ idle) :
    exec (.transmitStart idle) s = .next (finish s (startFrame s)) := by
  rw [exec, execTransmitStart, if_pos ((mayStart_iff hs idle).2 ⟨k, hk, hidle⟩), if_neg hd]

theorem execTransmitStart_waits (hs : s.port.spacing = none) {k idle : Nat}
    (hk : s.idleNeeded = some k) (hidle : idle < k) : exec (.transmitStart idle) s = .next s := by
  rw [exec, execTransmitStart, if_neg]
  rw [mayStart_iff hs, hk]
  rintro ⟨m, hm, hle⟩
  cases hm
  omega

theorem idleNeeded_ready (h : s.port.tx = .ready) : s.idleNeeded = some 100 := by
  rw [State.idleNeeded, h]
  rfl

theorem idleNeeded_backoff (h : s.port.tx = .backoff) :
    s.idleNeeded = some ((s.straps.station.val + 1) * 150) := by
  rw [State.idleNeeded, h]
  rfl

/-! ### The completion (R153) -/

/-- The Cell Line Port after a completion with this draw target (R153). -/
def CellPort.completed (p : CellPort) (n : Notice) (draw : Nat) : CellPort :=
  { p with
    frame := none, spacing := some 2, idle := 0, collisions := 0, due := p.due || draw != n.draw
    tx := if (p.due || draw != n.draw) = true then .ready else .quiet
    line := if (p.due || draw != n.draw) = true then some 20 else none }

theorem execTransmissionComplete_sending (hd : s.seq.station ≠ .powerDown) (htx : s.port.tx = .sending)
    (hframe : s.port.frame = some n) :
    exec .transmissionComplete s = .next (finish s (endSending (restoreLine (completeFrame n s)))) := by
  simp only [exec, execTransmissionComplete, htx, hframe, hd, if_false]

theorem restoreLine_normal (h : u.coord.mode = .normal) : restoreLine u = u :=
  if_neg (by rw [h]; exact nofun)

/-- A completion in normal line mode that leaves this Coordination Unit. -/
theorem transmissionComplete_normal (hcalm : s.calm) (hd : s.seq.station ≠ .powerDown) (htx : s.port.tx = .sending)
    (hframe : s.port.frame = some n) {c : Coordination} (hmode : c.mode = .normal) (hdrawn : c.drawn = n.draw)
    (hc : completeFrame n s =
      { s with port := { s.port with frame := none, spacing := some 2, idle := 0 }, coord := c }) :
    ∃ t, exec .transmissionComplete s = .next t ∧
      State.settles s { s with port := s.port.completed n s.gen.draw, coord := c } t := by
  have hx := execTransmissionComplete_sending hd htx hframe
  have hended : endSending (completeFrame n s) = { s with port := s.port.completed n s.gen.draw, coord := c } := by
    rw [hc, CellPort.completed, ← hdrawn]
    rfl
  rw [restoreLine_normal (by rw [hc]; exact hmode), hended] at hx
  exact ⟨_, hx, finish_settles _ s hcalm⟩

theorem completeFrame_silent (h : n.jet = .off) :
    completeFrame n s =
      { s with port := { s.port with frame := none, spacing := some 2, idle := 0 }
               coord := { s.coord with drawn := n.draw, refresh := some 50 } } := by
  rw [completeFrame, if_pos h]
  rfl

theorem seeStamp_takes {stamp : Nat}
    (h : u.coord.cmaxSeen = false ∨ stampPrecedes u.coord.cmax stamp = true) :
    seeStamp stamp u = { u with coord := { u.coord with cmax := stamp, cmaxSeen := true } } :=
  if_pos (by simpa using h)

/-- C_max takes the stamp of a completed notice that carries the claim, and a first completion starts the settle timer
(R162, R164). -/
theorem completeFrame_claims (h : n.jet ≠ .off)
    (hseen : s.coord.cmaxSeen = false ∨ stampPrecedes s.coord.cmax n.stamp = true) :
    completeFrame n s =
      { s with
        port := { s.port with frame := none, spacing := some 2, idle := 0 }
        coord := if s.coord.jet = .pending ∧ s.coord.completed = false ∧ s.coord.stamp = n.stamp then
            { s.coord with drawn := n.draw, refresh := some 50, cmax := n.stamp, cmaxSeen := true
                           completed := true, settle := some 60 }
          else { s.coord with drawn := n.draw, refresh := some 50, cmax := n.stamp, cmaxSeen := true } } := by
  rw [completeFrame, if_neg h, seeStamp_takes (by exact hseen)]
  simp only [State.modCoord, State.modPort, Bool.not_eq_true']
  rfl

/-! ### The completion that ends degraded line mode (R154) -/

/-- What follows from others is recomputed from what it does not write, and from nothing of the Cell Line Port. -/
theorem derive_port (u : State) (p : CellPort) : derive { u with port := p } = { derive u with port := p } := by
  simp only [derive, dropCondition]
  split <;> rfl

theorem derive_derive_port (u : State) (p : CellPort) :
    derive { derive u with port := p } = derive { u with port := p } :=
  calc derive { derive u with port := p }
    _ = { derive (derive u) with port := p } := derive_port (derive u) p
    _ = { derive u with port := p } := by rw [derive_derive]
    _ = derive { u with port := p } := (derive_port u p).symm

theorem derive_recomputeAllowances (u : State) : derive (recomputeAllowances u) = derive u := by
  have hdrop : recomputeAllowances (dropCondition (recomputeAllowances u)) = recomputeAllowances (dropCondition u) := by
    simp only [dropCondition, recomputeAllowances_frame]
    split <;> rfl
  rw [derive, hdrop, derive]

/-- A completion in degraded line mode, before what follows is recomputed and the Port goes on. -/
def State.lineRestored (s : State) (n : Notice) : State :=
  { s with
    port := { s.port with frame := none, spacing := some 2, idle := 0 }
    coord := { s.coord with drawn := n.draw, refresh := some 50, mode := .normal }
    reports := (queueReport .lineRestored none none s.port.collisions s).reports }

/-- With no claim to test, the return to normal line mode is its report and the values that follow. -/
theorem restoreLine_degraded (hmode : s.coord.mode = .degraded) (hoff : s.coord.jet = .off) (hjet : n.jet = .off) :
    restoreLine (completeFrame n s) = derive (s.lineRestored n) := by
  have hreturn : returnLine (completeFrame n s) = recomputeAllowances (s.lineRestored n) := by
    rw [completeFrame_silent hjet]
    exact if_pos hmode
  have hderived : (derive (s.lineRestored n)).coord.jet = .off := by
    simpa [State.lineRestored] using hoff
  rw [restoreLine, hreturn, derive_recomputeAllowances, grantTest_off hderived]
  exact if_pos (by rw [completeFrame_silent hjet]; exact hmode)

theorem endSending_lineRestored (s : State) (n : Notice) :
    endSending (derive (s.lineRestored n)) =
      { derive (s.lineRestored n) with port := s.port.completed n (derive (s.lineRestored n)).gen.draw } := by
  have hport : (derive (s.lineRestored n)).port = { s.port with frame := none, spacing := some 2, idle := 0 } := by
    simp [State.lineRestored]
  have hdrawn : (derive (s.lineRestored n)).coord.drawn = n.draw := by simp [State.lineRestored]
  simp only [endSending, State.modPort, hport, hdrawn]
  rfl

theorem transmissionComplete_degraded (hcalm : s.calm) (hd : s.seq.station ≠ .powerDown) (htx : s.port.tx = .sending)
    (hframe : s.port.frame = some n) (hmode : s.coord.mode = .degraded) (hjet : n.jet = .off)
    (hoff : s.coord.jet = .off) :
    ∃ t, exec .transmissionComplete s = .next t ∧
      State.settles s { s.lineRestored n with port := s.port.completed n t.gen.draw } t := by
  have hx := execTransmissionComplete_sending hd htx hframe
  rw [restoreLine_degraded hmode hoff hjet, endSending_lineRestored] at hx
  set p := s.port.completed n (derive (s.lineRestored n)).gen.draw
  have hrestored : (s.lineRestored n).calm := hcalm
  have hderived : ({ derive (s.lineRestored n) with port := p } : State).calm :=
    (calm_congr (by simp) (by simp)).2 hrestored
  have hported : ({ s.lineRestored n with port := p } : State).calm := hcalm
  have hend : finish s { derive (s.lineRestored n) with port := p } = finish s { s.lineRestored n with port := p } := by
    rw [finish_calm _ s hderived, finish_calm _ s hported, conclude, derive_derive_port, conclude]
  have hdraw : (finish s { s.lineRestored n with port := p }).gen.draw = (derive (s.lineRestored n)).gen.draw := by
    rw [finish_calm _ s hported, conclude, derive_port]
    simp
  rw [hend] at hx
  refine ⟨_, hx, ?_⟩
  rw [hdraw]
  exact finish_settles _ s hported

end Sys2Proof.Machine

open Sys2Proof Sys2Proof.Machine

/-- Settles O53: a start builds the notice of the moment, and a completion goes on from what the frame leaves of C_max
and the settle timer; the one in degraded line mode is announced against the draw target recomputed by then. -/
theorem transmissionsStartAndComplete : Obligations.TransmissionsStartAndComplete := by
  refine ⟨fun s idle hcalm hs => ⟨fun hmet hd => ?_, fun hshort => ?_⟩, fun s n hcalm hd htx hframe =>
    ⟨fun hmode => ⟨fun hjet => ?_, fun hjet hpending hfirst hstamp hseen => ?_, fun hjet hpending hseen => ?_⟩,
      fun hmode hjet hoff => transmissionComplete_degraded hcalm hd htx hframe hmode hjet hoff⟩⟩
  · have hx : exec (.transmitStart idle) s = .next (finish s (startFrame s)) := by
      rcases hmet with ⟨htx, hidle⟩ | ⟨htx, hidle⟩
      · exact execTransmitStart_starts hs hd (idleNeeded_ready htx) hidle
      · exact execTransmitStart_starts hs hd (idleNeeded_backoff htx) hidle
    exact ⟨_, hx, finish_settles (startFrame s) s hcalm⟩
  · rcases hshort with ⟨htx, hidle⟩ | ⟨htx, hidle⟩
    · exact execTransmitStart_waits hs (idleNeeded_ready htx) hidle
    · exact execTransmitStart_waits hs (idleNeeded_backoff htx) hidle
  · exact transmissionComplete_normal hcalm hd htx hframe (c := { s.coord with drawn := n.draw, refresh := some 50 })
      hmode rfl (completeFrame_silent hjet)
  · have hclaims := completeFrame_claims (s := s) (n := n) (by rw [hjet]; exact nofun) hseen
    rw [if_pos ⟨hpending, hfirst, hstamp.symm⟩] at hclaims
    exact transmissionComplete_normal hcalm hd htx hframe hmode rfl hclaims
  · have hclaims := completeFrame_claims (s := s) (n := n) (by rw [hjet]; exact nofun) hseen
    rw [if_neg fun ⟨hp, _⟩ => hpending hp] at hclaims
    exact transmissionComplete_normal hcalm hd htx hframe hmode rfl hclaims
end

section
/-! The step that a capture forms (R99 to R101) -/

namespace Sys2Proof.Machine

variable {c : Capture} {k : Condition} {l : Nat}

/-! ### The tests of R99, one equation each -/

theorem formStep_level_zero : formStep c k 0 = .forward 0 := by rw [formStep, if_pos rfl]

theorem formStep_open (hl : 0 < l) (hn : c.total = 0) :
    formStep c k l = .forward (k.fmax * min l k.lreq / k.lreq) := by
  simp only [formStep, if_neg hl.ne', if_pos hn]

theorem formStep_shorted (hl : 0 < l) (hn : 0 < c.total) (hshort : c.total ≤ 4 * c.short) :
    formStep c k l = .retreat := by
  simp only [formStep, if_neg hl.ne', if_neg hn.ne', if_pos hshort]

section
variable (hl : 0 < l) (hshort : 4 * c.short < c.total)
include hl hshort

theorem formStep_low (hmean : c.mean ≤ k.vref) : formStep c k l = .forward 0 := by
  simp only [formStep, if_neg hl.ne', if_neg (Nat.zero_lt_of_lt hshort).ne', if_neg hshort.not_ge, if_pos hmean]

theorem formStep_burning (hmean : k.vref < c.mean) :
    formStep c k l = .forward (feed k.fmax c.mean k.vref * min l k.lreq / k.lreq) := by
  simp only [formStep, if_neg hl.ne', if_neg (Nat.zero_lt_of_lt hshort).ne', if_neg hshort.not_ge,
    if_neg hmean.not_ge]

end

/-! ### The bounds of d0 and d -/

/-- A share `min m n / n` of a distance is no more than the distance: d0 of Fmax, and d of d0. -/
theorem mul_min_div_le (x m n : Nat) : x * min m n / n ≤ x :=
  Nat.div_le_of_le_mul (by rw [Nat.mul_comm n]; exact Nat.mul_le_mul_left x (Nat.min_le_right m n))

theorem feed_le (fmax vm vref : Nat) : feed fmax vm vref ≤ fmax := mul_min_div_le _ _ _

/-- A share short of Lreq is lost. -/
theorem mul_min_div_eq_zero {x m n : Nat} (hn : 0 < n) (h : x = 0 ∨ x * min m n < n) : x * min m n / n = 0 := by
  refine Nat.div_eq_of_lt ?_
  rcases h with rfl | h
  · rwa [Nat.zero_mul]
  · exact h

end Sys2Proof.Machine

open Sys2Proof Sys2Proof.Machine

/-- Settles O38: an equation for each test of R99, and d0 and d as shares of Fmax and of d0. -/
theorem stepIsFormedFromTheCapture : Obligations.StepIsFormedFromTheCapture := by
  intro c k l
  refine ⟨?_, formStep_open, formStep_shorted, formStep_low, formStep_burning,
    fun hvref => ⟨by omega, feed_le k.fmax c.mean k.vref⟩,
    fun hreq x => ⟨mul_min_div_le x l k.lreq, mul_min_div_eq_zero hreq⟩⟩
  rintro rfl
  exact formStep_level_zero
end

section
/-! The walk back along the Retreat History and the retreat that makes it (R111 to R113) -/

namespace Sys2Proof.Machine

variable {s : State} {e : Entry} {behind rest : List Entry} {c p a : Nat}

@[simp] theorem lengths_nil : lengths [] = 0 := rfl

@[simp] theorem lengths_cons (e : Entry) (rest : List Entry) : lengths (e :: rest) = e.length + lengths rest := rfl

/-! ### The walk, one equation for each way it goes -/

theorem walkBack_within (h : a ≤ p) : walkBack behind c p a = ⟨c, p - a, 0, false⟩ := by
  cases behind <;> rw [walkBack, if_pos h]

theorem walkBack_nil (h : p < a) : walkBack [] c p a = ⟨c, 0, a - p, true⟩ := by
  rw [walkBack, if_neg h.not_ge]

/-- A crossing into the far store fills, and ends the walk there (R112). -/
theorem walkBack_fill (h : p < a) (hc : 4 ≤ c) : walkBack (e :: rest) c p a = ⟨c + 1, e.length, a - p, false⟩ := by
  rw [walkBack, if_neg h.not_ge, if_pos (show Config.nearSet ≤ c from hc)]

theorem walkBack_cross (h : p < a) (hc : c < 4) :
    walkBack (e :: rest) c p a = walkBack rest (c + 1) e.length (a - p) := by
  rw [walkBack, if_neg h.not_ge, if_neg (show ¬Config.nearSet ≤ c from hc.not_ge)]

/-! ### What a walk has done where it ends -/

/-- A walk back by `a` from progress `p` at position `c` ends as the retreat `w` says: inside an entry, at the start of
the oldest path held, or at the end of the first far entry it came to. -/
structure Retreat.Ends (behind : List Entry) (c p a : Nat) (w : Retreat) : Prop where
  left_le : w.left ≤ a
  le_cursor : c ≤ w.cursor
  cursor_le : w.cursor ≤ c + behind.length
  moved : (a - w.left) + w.progress = p + lengths (behind.take (w.cursor - c))
  exhausted : w.exhausted = true → 0 < w.left ∧ w.progress = 0 ∧ w.cursor = c + behind.length
  stopped : 0 < w.left → w.exhausted = false → c < w.cursor ∧ 5 ≤ w.cursor
  far : c < w.cursor → 5 ≤ w.cursor → w.cursor = max 5 (c + 1) ∧ w.exhausted = false ∧
    (behind[w.cursor - c - 1]?.map Entry.length) = some w.progress

theorem Retreat.ends_within (h : a ≤ p) : Retreat.Ends behind c p a ⟨c, p - a, 0, false⟩ where
  left_le := Nat.zero_le a
  le_cursor := Nat.le_refl c
  cursor_le := Nat.le_add_right c _
  moved := by simp only [Nat.sub_self, List.take_zero, lengths_nil]; omega
  exhausted := nofun
  stopped := nofun
  far := fun hc => absurd hc (Nat.lt_irrefl c)

theorem Retreat.ends_exhausted (h : p < a) : Retreat.Ends [] c p a ⟨c, 0, a - p, true⟩ where
  left_le := Nat.sub_le a p
  le_cursor := Nat.le_refl c
  cursor_le := Nat.le_refl c
  moved := by simp only [List.take_nil, lengths_nil]; omega
  exhausted := fun _ => ⟨Nat.sub_pos_of_lt h, rfl, rfl⟩
  stopped := nofun
  far := fun hc => absurd hc (Nat.lt_irrefl c)

theorem Retreat.ends_fill (h : p < a) (hc : 4 ≤ c) :
    Retreat.Ends (e :: rest) c p a ⟨c + 1, e.length, a - p, false⟩ where
  left_le := Nat.sub_le a p
  le_cursor := Nat.le_succ c
  cursor_le := Nat.add_le_add_left (Nat.succ_le_succ (Nat.zero_le _)) c
  moved := by
    simp only [Nat.add_sub_cancel_left, List.take_succ_cons, List.take_zero, lengths_cons, lengths_nil]
    omega
  exhausted := nofun
  stopped := fun _ _ => ⟨Nat.lt_succ_self c, Nat.succ_le_succ hc⟩
  far := fun _ hfar => ⟨(Nat.max_eq_right hfar).symm, rfl, by simp⟩

theorem Retreat.Ends.cross {w : Retreat} (hw : Retreat.Ends rest (c + 1) e.length (a - p) w) (h : p < a) (hc : c < 4) :
    Retreat.Ends (e :: rest) c p a w where
  left_le := hw.left_le.trans (Nat.sub_le a p)
  le_cursor := (Nat.le_succ c).trans hw.le_cursor
  cursor_le := by have := hw.cursor_le; rw [List.length_cons]; omega
  moved := by
    have hleft := hw.left_le
    have hfrom := hw.le_cursor
    have hmoved := hw.moved
    rw [show w.cursor - c = w.cursor - (c + 1) + 1 by omega, List.take_succ_cons, lengths_cons]
    omega
  exhausted := fun hx => by
    obtain ⟨hleft, hprogress, hcursor⟩ := hw.exhausted hx
    exact ⟨hleft, hprogress, by rw [List.length_cons]; omega⟩
  stopped := fun hleft hx => (hw.stopped hleft hx).imp_left (Nat.lt_of_succ_lt)
  far := fun _ hfar => by
    have hbeyond : c + 1 < w.cursor := by omega
    obtain ⟨hcursor, hx, hentry⟩ := hw.far hbeyond hfar
    refine ⟨by omega, hx, ?_⟩
    rw [← hentry, show w.cursor - c - 1 = w.cursor - (c + 1) - 1 + 1 by omega, List.getElem?_cons_succ]

theorem walkBack_ends (behind : List Entry) (c p a : Nat) : Retreat.Ends behind c p a (walkBack behind c p a) := by
  induction behind generalizing c p a with
  | nil =>
    rcases Nat.lt_or_ge p a with h | h
    · rw [walkBack_nil h]
      exact Retreat.ends_exhausted h
    · rw [walkBack_within h]
      exact Retreat.ends_within h
  | cons e rest ih =>
    rcases Nat.lt_or_ge p a with h | h
    · rcases Nat.lt_or_ge c 4 with hc | hc
      · rw [walkBack_cross h hc]
        exact (ih (c + 1) e.length (a - p)).cross h hc
      · rw [walkBack_fill h hc]
        exact Retreat.ends_fill h hc
    · rw [walkBack_within h]
      exact Retreat.ends_within h

/-! ### The retreat taken -/

/-- The retreat depth grows by what the walk moved, which the clamp of R111 bounds. -/
theorem retreatTaken_rd (k : Condition) (s : State) :
    ∃ m, m ≤ allowedRetreat k.rstep (s.condition ((s.queue.head?.map Entry.cond).getD 0)).lr s.exe.rd ∧
      (retreatTaken k s).1.exe.rd = s.exe.rd + m := by
  rw [retreatTaken]
  split_ifs <;> exact ⟨_, Nat.sub_le _ _, rfl⟩

theorem retreatTaken_front (k : Condition) (s : State) : (retreatTaken k s).1.exe.front = s.exe.front := by
  rw [retreatTaken]
  split_ifs <;> rfl

/-- The limit is that of the front segment; a depth already past it, under a condition of another Lr, is not taken
further. -/
theorem retreatTaken_rd_le (k : Condition) (hq : s.queue = e :: rest) :
    (retreatTaken k s).1.exe.rd ≤ max s.exe.rd (1000 * (s.condition e.cond).lr) := by
  obtain ⟨m, hm, hrd⟩ := retreatTaken_rd k s
  rw [hq] at hm
  have hroom : m ≤ 1000 * (s.condition e.cond).lr - s.exe.rd := hm.trans (Nat.min_le_right _ _)
  omega

end Sys2Proof.Machine

open Sys2Proof Sys2Proof.Machine

/-- Settles O39: the walk by induction on the path behind it, and the depth by the clamp of R111. -/
theorem retreatWalksBackInsideItsLimit : Obligations.RetreatWalksBackInsideItsLimit := by
  refine ⟨fun behind c p a => ?_, fun k s e rest hq =>
    ⟨retreatTaken_rd_le k hq, retreatTaken_front k s, by simp, by simp⟩⟩
  obtain ⟨hleft, hfrom, hto, hmoved, hexhausted, hstopped, hfar⟩ := walkBack_ends behind c p a
  refine ⟨hleft, hfrom, hto, hmoved, hexhausted, fun hpos hx => ?_, hfar, ?_, ?_, walkBack_within⟩
  · obtain ⟨hcrossed, hbeyond⟩ := hstopped hpos hx
    exact ⟨hcrossed, hbeyond, (hfar hcrossed hbeyond).2.2⟩
  · rintro e more rfl
    exact walkBack_fill
  · rintro e more rfl
    exact walkBack_cross
end

section
/-! Threader Control's outputs stay in their own phases (R120, R122, R124, R126, R130, R166): what each operation of
the Station Sequencer and of Threader Control keeps of it. -/

namespace Sys2Proof.Machine

variable {s t u : State}

/-- The invariant reads Threader Control and the own jet state alone. -/
theorem State.threaderSafe.of_same (h : s.threaderSafe) (hthr : t.thr = s.thr)
    (hjet : t.coord.jet = s.coord.jet) : t.threaderSafe := by
  simp only [State.threaderSafe, hthr, hjet]
  exact h

/-! ### States in which the outputs are released -/

/-- No output of a stroke or an attempt is on, no thread is held and the jet is not claimed (R120, R130, R166). -/
structure State.released (s : State) : Prop where
  cutter : s.thr.cutter = false
  anneal : s.thr.anneal = false
  valve : s.thr.valve = false
  feed : s.thr.feed = false
  held : s.thr.held = false
  jet : s.coord.jet = .off

/-- With the outputs released, an attempt and a stroke need their request alone. -/
theorem State.released.safe (h : s.released) (hattempt : s.thr.phase.attempting = true → s.thr.request = .thread)
    (hstroke : s.thr.phase = .cutTip → s.thr.request ≠ .off) : s.threaderSafe := by
  obtain ⟨hcutter, hanneal, hvalve, hfeed, hheld, hjet⟩ := h
  simp only [State.threaderSafe, hcutter, hanneal, hvalve, hfeed, hheld, hjet]
  exact ⟨nofun, nofun, nofun, nofun, hattempt, hstroke, nofun, fun hne => absurd rfl hne⟩

/-- Threader Control with no stroke and no attempt in hand. -/
def Phase.resting (p : Phase) : Prop := p = .idle ∨ p = .done

theorem State.released.safe_of_resting (h : s.released) (hp : s.thr.phase.resting) : s.threaderSafe := by
  rcases hp with hp | hp <;> exact h.safe (by simp [hp, Phase.attempting]) (by simp [hp])

theorem State.released.of_same (h : s.released) (hthr : t.thr = s.thr) (hjet : t.coord.jet = s.coord.jet) :
    t.released := by
  obtain ⟨hcutter, hanneal, hvalve, hfeed, hheld, hoff⟩ := h
  constructor <;> simp only [hthr, hjet] <;> assumption

/-- Outside the stroke and the attempts an output is on in no phase. -/
theorem State.threaderSafe.released_of_resting (h : s.threaderSafe) (hp : s.thr.phase.resting)
    (hheld : s.thr.held = false) : s.released := by
  obtain ⟨hcutter, hanneal, hvalve, hfeed, -, -, -, hjet⟩ := h
  constructor <;> rcases hp with hp | hp <;> simp_all

/-- With no request in hand Threader Control rests, its outputs released. -/
theorem State.threaderSafe.rests (h : s.threaderSafe) (hreq : s.thr.request = .off) :
    s.thr.phase.resting ∧ s.released := by
  have ⟨_, _, _, _, hattempt, hstroke, hheld, _⟩ := h
  rw [hreq] at hattempt hstroke hheld
  have hp : s.thr.phase.resting := by
    cases hphase : s.thr.phase <;> simp_all [Phase.attempting, Phase.resting]
  exact ⟨hp, h.released_of_resting hp (Bool.eq_false_iff.2 fun ht => WireRequest.noConfusion (hheld ht).2)⟩

/-- An attempt after its stroke is the work of a thread request that is not held. -/
theorem State.threaderSafe.attempt (h : s.threaderSafe) (hp : s.thr.phase.attempting = true) :
    s.thr.request = .thread ∧ s.thr.held = false ∧ s.thr.cutter = false := by
  obtain ⟨hcutter, -, -, -, hattempt, -, hheld, -⟩ := h
  refine ⟨hattempt hp, ?_, ?_⟩ <;> refine Bool.eq_false_iff.2 fun ht => ?_
  · rw [(hheld ht).1] at hp; cases hp
  · rw [hcutter ht] at hp; cases hp

/-! ### The jet and the ends of an attempt (R121, R128 to R132, R166) -/

theorem releaseJet_jet (s : State) : (releaseJet s).coord.jet = .off := by
  rw [releaseJet_coord_eq, Coordination.released]
  split
  next h => exact h
  next => rfl

theorem endAttempt_thr (s : State) :
    (endAttempt s).thr = { s.thr with cutter := false, anneal := false, valve := false, feed := false, timer := none
                                      sagBlank := none } := rfl

theorem endAttempt_jet (s : State) : (endAttempt s).coord.jet = .off := releaseJet_jet (releaseOutputs s)

theorem endAttempt_released (h : s.thr.held = false) : (endAttempt s).released :=
  ⟨rfl, rfl, rfl, rfl, h, endAttempt_jet s⟩

theorem stopThreader_released (s : State) : (stopThreader s).released :=
  ⟨rfl, rfl, rfl, rfl, rfl, endAttempt_jet s⟩

theorem stopThreader_safe (s : State) : (stopThreader s).threaderSafe :=
  (stopThreader_released s).safe_of_resting (.inl rfl)

/-- What a discard leaves before a new request. -/
theorem discardRequest_rests (h : s.threaderSafe) :
    (discardRequest s).thr.phase.resting ∧ (discardRequest s).released := by
  rw [discardRequest]
  split
  next hoff => exact h.rests hoff
  next => exact ⟨.inl rfl, stopThreader_released s⟩

/-- The cutter fires for the request in hand (R122). -/
theorem enterCutTip_safe (h : s.released) (hreq : s.thr.request ≠ .off) : (enterCutTip s).threaderSafe := by
  have hthr : (enterCutTip s).thr = s.thr.cutting := by simp [enterCutTip, Threader.cutting]
  obtain ⟨-, hanneal, hvalve, hfeed, hheld, hjet⟩ := h
  simp [State.threaderSafe, hthr, Threader.cutting, hanneal, hvalve, hfeed, hheld, hjet, hreq, Phase.attempting]

theorem requestThread_safe (mode : Mode) (limit : Nat) (h : s.threaderSafe) :
    (requestThread mode limit s).threaderSafe := by
  obtain ⟨-, hcutter, hanneal, hvalve, hfeed, -, hjet⟩ := discardRequest_rests h
  exact enterCutTip_safe ⟨hcutter, hanneal, hvalve, hfeed, rfl, hjet⟩ nofun

theorem requestCut_safe (check : Bool) (h : s.threaderSafe) : (requestCut check s).threaderSafe := by
  obtain ⟨hp, hreleased⟩ := discardRequest_rests h
  have hasked : ((discardRequest s).modThr fun t => { t with request := .cut, tensionCheck := check }).released := by
    obtain ⟨hcutter, hanneal, hvalve, hfeed, hheld, hjet⟩ := hreleased
    exact ⟨hcutter, hanneal, hvalve, hfeed, hheld, hjet⟩
  rw [requestCut]
  split
  · obtain ⟨hcutter, hanneal, hvalve, hfeed, hheld, hjet⟩ := hasked
    exact State.released.safe_of_resting ⟨hcutter, hanneal, hvalve, hfeed, hheld, hjet⟩ hp
  · exact enterCutTip_safe hasked nofun

theorem withdrawThread_safe (h : s.threaderSafe) : (withdrawThread s).threaderSafe := by
  have hreleased : ((endAttempt s).modThr fun t =>
      { t with phase := .idle, request := .off, held := false }).released :=
    ⟨rfl, rfl, rfl, rfl, rfl, endAttempt_jet s⟩
  have hsafe := hreleased.safe_of_resting (.inl rfl)
  rw [withdrawThread]
  split
  · dsimp only
    split
    · exact hsafe
    · exact hsafe.of_same (by simp) (by simp)
  · exact h

/-- A thread held in mid-attempt waits in IDLE, its outputs and the jet released (R130). -/
theorem holdThread_safe (h : s.threaderSafe) : (holdThread s).threaderSafe := by
  by_cases hwork : s.thr.request = .thread ∧ s.thr.phase.attempting = true
  · obtain ⟨hreq, hp⟩ := hwork
    rw [holdThread_attempting hreq hp]
    simp [State.threaderSafe, hreq, Phase.attempting, ← releaseJet_coord_eq, releaseJet_jet]
  · rw [holdThread_stands]
    · exact h
    · by_cases hreq : s.thr.request = .thread
      · have hp : ¬s.thr.phase.attempting = true := fun hp => hwork ⟨hreq, hp⟩
        cases hphase : s.thr.phase <;> simp_all [Phase.attempting]
      · exact .inl hreq

/-! ### Machine/Sequencer.lean -/

theorem beginCut_safe (check : Bool) (h : s.threaderSafe) : (beginCut check s).threaderSafe := by
  rw [beginCut]
  split
  · exact h
  · exact requestCut_safe check h

theorem finishPart_safe (p : PartNo) (st : PartState) (c : Option Cause) (h : s.threaderSafe) :
    (finishPart p st c s).threaderSafe := h.of_same (by simp) (by simp)

theorem beginResumption_safe (r : Route) (h : s.threaderSafe) : (beginResumption r s).threaderSafe :=
  requestCut_safe false h

theorem beginPart_safe (p : PartNo) (h : s.threaderSafe) : (beginPart p s).threaderSafe := by
  rw [beginPart]
  dsimp only
  split
  · exact beginResumption_safe _ (h.of_same (by simp) (by simp))
  · exact h.of_same (by simp) (by simp)
  · split
    · exact beginResumption_safe _ (h.of_same (by simp) (by simp))
    · exact h.of_same (by simp) (by simp)
  · exact h.of_same (by simp) (by simp)
  · exact h.of_same (by simp) (by simp)

theorem selectionPoint_safe (h : s.threaderSafe) : (selectionPoint s).threaderSafe := by
  rw [selectionPoint]
  split
  · exact h
  · split
    · exact beginPart_safe _ h
    · exact h.of_same (by simp) (by simp)

theorem flush_safe (h : s.threaderSafe) : (flush s).threaderSafe := h.of_same (by simp) (by simp)

theorem silencePort_safe (h : s.threaderSafe) : (silencePort s).threaderSafe := h

theorem haltStation_safe (code : HaltCode) (s : State) : (haltStation code s).threaderSafe := by
  have hstop : (stopThreader (flush s)).threaderSafe := stopThreader_safe _
  rw [haltStation]
  split
  · exact silencePort_safe (hstop.of_same (by simp) (by simp))
  · exact hstop.of_same (by simp) (by simp)

theorem skipWorked_safe (p : PartNo) (c : Cause) (h : s.threaderSafe) : (skipWorked p c s).threaderSafe :=
  beginCut_safe _ (finishPart_safe _ _ _ (flush_safe h))

theorem actSkip_safe (cutNeeded : Bool) (h : s.threaderSafe) : (actSkip cutNeeded s).threaderSafe := by
  rw [actSkip]
  split
  · exact h
  next p _ =>
    have hwithdrawn : (withdrawThread (closeWindow (flush (s.modSeq fun q =>
        { q with skipOwed := false })))).threaderSafe :=
      withdrawThread_safe (h.of_same (by simp) (by simp))
    split
    · exact beginCut_safe _ (finishPart_safe _ _ _ hwithdrawn)
    · exact selectionPoint_safe (finishPart_safe _ _ _ hwithdrawn)

theorem atBoundary_safe {next : State → State} (h : s.threaderSafe) (hnext : (next s).threaderSafe) :
    (atBoundary next s).threaderSafe := by
  rw [atBoundary]
  split
  · exact actSkip_safe true h
  · exact hnext

theorem skipThreadLimit_safe (p : PartNo) (h : s.threaderSafe) : (skipThreadLimit p s).threaderSafe := by
  rw [skipThreadLimit]
  split
  · exact haltStation_safe _ _
  · exact beginCut_safe _ (h.of_same (by simp) (by simp))

theorem beginRecovery_safe (c : BreakCondition) (h : s.threaderSafe) : (beginRecovery c s).threaderSafe := by
  rw [beginRecovery]
  split
  · exact h
  · dsimp only
    split
    · exact requestThread_safe _ _ (h.of_same (by simp) (by simp))
    · exact requestCut_safe _ (h.of_same (by simp) (by simp))

theorem breakTaken_safe (c : BreakCondition) (h : s.threaderSafe) : (breakTaken c s).threaderSafe := by
  rw [breakTaken]
  split
  · split
    · dsimp only
      split
      · exact actSkip_safe _ (h.of_same (by simp) (by simp))
      split
      · exact skipWorked_safe _ _ (h.of_same (by simp) (by simp))
      split
      · exact h.of_same (by simp) (by simp)
      · exact beginRecovery_safe _ (h.of_same (by simp) (by simp))
    · split
      · exact h.of_same (by simp) (by simp)
      · exact h
  · exact h

theorem routeAfterCut_safe (h : s.threaderSafe) : (routeAfterCut s).threaderSafe := by
  rw [routeAfterCut]
  split
  · exact requestThread_safe _ _ (h.of_same (by simp) (by simp))
  · exact h.of_same (by simp) (by simp)
  · exact h.of_same (by simp) (by simp)
  · exact h

theorem cutCompleted_safe (h : s.threaderSafe) : (cutCompleted s).threaderSafe := by
  rw [cutCompleted]
  split
  · exact selectionPoint_safe h
  split
  · exact actSkip_safe _ h
  split
  · split
    · exact h.of_same (by simp) (by simp)
    · exact routeAfterCut_safe h
  split
  · exact selectionPoint_safe (h.of_same (by simp) (by simp))
  · exact selectionPoint_safe h

theorem moveArrived_safe (h : s.threaderSafe) : (moveArrived s).threaderSafe := by
  refine atBoundary_safe h ?_
  split
  · exact requestThread_safe _ _ (h.of_same (by simp) (by simp))
  · exact requestThread_safe _ _ (h.of_same (by simp) (by simp))
  · exact h

/-- The passes that a completed thread starts are the Path Fetcher's and the Cut Executor's. -/
theorem threadCompleted_safe (h : s.threaderSafe) : (threadCompleted s).threaderSafe := by
  refine atBoundary_safe h ?_
  dsimp only
  (repeat' split) <;> exact h.of_same (by simp) (by simp)

theorem threadLimitReached_safe (h : s.threaderSafe) : (threadLimitReached s).threaderSafe := by
  rw [threadLimitReached]
  split
  · exact h
  split
  · exact requestCut_safe _ (h.of_same (by simp) (by simp))
  · exact skipWorked_safe _ _ h
  · exact skipThreadLimit_safe _ h
  · split
    · exact skipWorked_safe _ _ h
    · exact skipThreadLimit_safe _ h

theorem openWindow_safe (p : PartNo) (h : s.threaderSafe) : (openWindow p s).threaderSafe := by
  rw [openWindow]
  split <;> exact atBoundary_safe (h.of_same (by simp) (by simp)) (h.of_same (by simp) (by simp))

theorem stopTaken_safe (tab : Bool) (at_ : Point) (cond : CondNo) (h : s.threaderSafe) :
    (stopTaken tab at_ cond s).threaderSafe := by
  rw [stopTaken]
  split
  · exact h
  next p _ =>
    have hended : (if s.seq.activity == some .recovering then endRecovery p s else s).threaderSafe := by
      split
      · exact h.of_same (by simp) (by simp)
      · exact h
    dsimp only
    split
    · exact h.of_same (by simp) (by simp)
    · split
      · exact beginCut_safe _ (hended.of_same (by simp) (by simp))
      · exact openWindow_safe _ hended

theorem faultTaken_safe (f : FetchFault) (h : s.threaderSafe) : (faultTaken f s).threaderSafe := by
  refine atBoundary_safe h ?_
  split
  · exact h
  · exact skipWorked_safe _ _ h

theorem dropTaken_safe (h : s.threaderSafe) : (dropTaken s).threaderSafe := by
  rw [dropTaken]
  split
  · split
    · exact beginCut_safe _ (h.of_same (by simp) (by simp))
    · exact beginCut_safe _ (h.of_same (by simp) (by simp))
  · exact h.of_same (by simp) (by simp)

theorem windowExpired_safe (p : PartNo) (h : s.threaderSafe) : (windowExpired p s).threaderSafe := by
  rw [windowExpired]
  split <;> exact beginCut_safe _ (h.of_same (by simp) (by simp))

/-! ### Machine/Threading.lean -/

/-- An attempt with its outputs off claims the jet, or keeps the claim it has (R125, R163). -/
theorem enterJetClaim_safe (h : s.threaderSafe) (hp : s.thr.phase.attempting = true) (hanneal : s.thr.anneal = false)
    (hvalve : s.thr.valve = false) (hfeed : s.thr.feed = false) : (enterJetClaim s).threaderSafe := by
  obtain ⟨hreq, hheld, hcutter⟩ := h.attempt hp
  simp [State.threaderSafe, enterJetClaim, hreq, hheld, hcutter, hanneal, hvalve, hfeed]

/-- The valve opens for the holder of the jet (R126, R166). -/
theorem enterFeed_safe (h : s.threaderSafe) (hp : s.thr.phase.attempting = true) (hanneal : s.thr.anneal = false)
    (hjet : s.coord.jet = .holding) : (enterFeed s).threaderSafe := by
  obtain ⟨hreq, hheld, hcutter⟩ := h.attempt hp
  simp [State.threaderSafe, enterFeed, hreq, hheld, hcutter, hanneal, hjet]

/-- A claim stands in JET_CLAIM and FEED alone, where the anneal current is off. -/
theorem State.threaderSafe.claiming (h : s.threaderSafe) (hjet : s.coord.jet ≠ .off) :
    s.thr.phase.attempting = true ∧ s.thr.anneal = false := by
  obtain ⟨-, hanneal, -, -, -, -, -, hclaim⟩ := h
  rcases hclaim hjet with hp | hp <;> exact ⟨by rw [hp]; rfl, by simpa [hp] using hanneal⟩

theorem grant_safe (h : s.threaderSafe) (hjet : s.coord.jet ≠ .off) : (grant s).threaderSafe := by
  obtain ⟨hp, hanneal⟩ := h.claiming hjet
  have hgranted : ((s.modCoord fun c => { c with jet := .holding }).modThr fun t =>
      { t with timer := none }).threaderSafe := by
    obtain ⟨hcutter, hburn, hvalve, hfeed, hattempt, hstroke, hheld, hclaim⟩ := h
    exact ⟨hcutter, hburn, fun hopen => ⟨(hvalve hopen).1, rfl⟩, hfeed, hattempt, hstroke, hheld,
      fun _ => hclaim hjet⟩
  exact atBoundary_safe hgranted (enterFeed_safe hgranted hp hanneal rfl)

theorem grantTest_safe (h : s.threaderSafe) : (grantTest s).threaderSafe := by
  rw [grantTest]
  split
  next hpass => exact grant_safe h (by rw [hpass.1]; exact nofun)
  next => exact h

/-- A report queued touches neither. -/
theorem queueReport_safe {kind : ReportKind} {p : Option PartNo} {c : Option Cause} {d : Nat} (h : s.threaderSafe) :
    (queueReport kind p c d s).threaderSafe := h.of_same (by simp) (by simp)

theorem jetConflict_safe (peer : StationNo) (h : s.threaderSafe) (hjet : s.coord.jet ≠ .off) :
    (jetConflict peer s).threaderSafe := by
  obtain ⟨hp, hanneal⟩ := h.claiming hjet
  have hyielded : (follow .contact ((s.modCoord fun c => { c with jet := .waiting }).modThr fun t =>
      { t with valve := false, feed := false })).threaderSafe := by
    obtain ⟨hcutter, hburn, -, -, hattempt, hstroke, hheld, hclaim⟩ := h
    exact ⟨hcutter, hburn, nofun, nofun, hattempt, hstroke, hheld, fun _ => hclaim hjet⟩
  have hclaimed := enterJetClaim_safe hyielded hp hanneal rfl rfl
  rw [jetConflict]
  exact queueReport_safe hclaimed

theorem enterAnneal_safe (h : s.threaderSafe) (hp : s.thr.phase = .annealWait) : (enterAnneal s).threaderSafe := by
  obtain ⟨hreq, hheld, hcutter⟩ := h.attempt (by rw [hp]; rfl)
  obtain ⟨-, -, hvalve, hfeed, -, -, -, hjet⟩ := h
  simp_all [State.threaderSafe, enterAnneal]

theorem annealTest_safe (h : s.threaderSafe) : (annealTest s).threaderSafe := by
  rw [annealTest]
  split
  next hpass => exact atBoundary_safe h (enterAnneal_safe h hpass.1)
  next => exact h

/-- In TENSION no output of R120 but the tension is on, and the jet is released. -/
theorem State.threaderSafe.released_of_tension (h : s.threaderSafe) (hp : s.thr.phase = .tension) : s.released := by
  obtain ⟨-, hheld, hcutter⟩ := h.attempt (by rw [hp]; rfl)
  obtain ⟨-, hanneal, hvalve, hfeed, -, -, -, hjet⟩ := h
  constructor <;> simp_all

theorem annealEnded_safe (h : s.threaderSafe) (hp : s.thr.phase = .anneal) : (annealEnded s).threaderSafe := by
  obtain ⟨hcutter, -, hvalve, hfeed, hrest⟩ := h
  have hclosed : s.thr.valve = false := by simpa [hp] using hvalve
  have hstill : s.thr.feed = false := by simpa [hp] using hfeed
  have hended : (follow .supplySag (s.modThr fun t =>
      { t with anneal := false, timer := none, sagBlank := none })).threaderSafe :=
    ⟨hcutter, nofun, hvalve, hfeed, hrest⟩
  exact atBoundary_safe hended (enterJetClaim_safe hended (congrArg Phase.attempting hp) rfl hclosed hstill)

theorem enterTension_safe (h : s.released) (hreq : s.thr.request = .thread) : (enterTension s).threaderSafe := by
  obtain ⟨hcutter, hanneal, hvalve, hfeed, hheld, hjet⟩ := h
  simp [State.threaderSafe, enterTension, hreq, hcutter, hanneal, hvalve, hfeed, hheld, hjet]

theorem contactTaken_safe (h : s.threaderSafe) (hp : s.thr.phase = .feed) : (contactTaken s).threaderSafe := by
  obtain ⟨hreq, hheld, hcutter⟩ := h.attempt (by rw [hp]; rfl)
  obtain ⟨-, hanneal, -⟩ := h
  have hreleased : (releaseJet (follow .contact (s.modThr fun t =>
      { t with valve := false, feed := false, timer := none }))).released :=
    ⟨hcutter, by simpa [hp] using hanneal, rfl, rfl, hheld, releaseJet_jet _⟩
  exact atBoundary_safe (hreleased.safe (fun _ => hreq) (fun _ => hreq ▸ nofun)) (enterTension_safe hreleased hreq)

theorem enterDone_safe (h : s.threaderSafe) (hp : s.thr.phase = .tension) : (enterDone s).threaderSafe := by
  obtain ⟨hcutter, hanneal, hvalve, hfeed, hheld, hjet⟩ := h.released_of_tension hp
  have hdone : (s.modThr fun t =>
      { t with timer := none, wire := .threaded, phase := .done, request := .off }).threaderSafe :=
    State.released.safe_of_resting ⟨hcutter, hanneal, hvalve, hfeed, hheld, hjet⟩ (.inr rfl)
  exact threadCompleted_safe (hdone.of_same (by simp) (by simp))

theorem attemptFailed_safe (f : ThreadFailure) (h : s.threaderSafe) (hp : s.thr.phase.attempting = true) :
    (attemptFailed f s).threaderSafe := by
  obtain ⟨hreq, hheld, -⟩ := h.attempt hp
  have hlost : ((endAttempt s).modThr fun t => { t with attempts := t.attempts + 1 }).released :=
    ⟨rfl, rfl, rfl, rfl, hheld, endAttempt_jet s⟩
  have hreported (d : Nat) : (queueReport .threadFail ((endAttempt s).modThr fun t =>
      { t with attempts := t.attempts + 1 }).seq.current (some f.cause) d ((endAttempt s).modThr fun t =>
        { t with attempts := t.attempts + 1 })).released := hlost.of_same (by simp) (by simp)
  rw [attemptFailed]
  refine atBoundary_safe ((hreported _).safe (fun _ => hreq) (fun _ => hreq ▸ nofun)) ?_
  split
  · exact threadLimitReached_safe
      (State.released.safe_of_resting ⟨rfl, rfl, rfl, rfl, hheld, endAttempt_jet s⟩ (.inl rfl))
  · exact enterCutTip_safe (hreported _) (hreq ▸ nofun)

theorem strokeEnded_safe (h : s.threaderSafe) : (strokeEnded s).threaderSafe := by
  obtain ⟨-, hrest⟩ := h
  exact ⟨nofun, hrest⟩

theorem strokeEnded_released (h : s.threaderSafe) (hp : s.thr.phase = .cutTip) : (strokeEnded s).released := by
  obtain ⟨-, hanneal, hvalve, hfeed, -, -, hheld, hjet⟩ := h
  constructor <;> simp_all [strokeEnded]

/-- A thread's stroke goes on to ANNEAL_WAIT or is held, and a cut's has completed its request (R122, R130, R132). -/
theorem cutterDoneTaken_safe (h : s.threaderSafe) (hp : s.thr.phase = .cutTip) : (cutterDoneTaken s).threaderSafe := by
  have hstroke := strokeEnded_safe h
  have hreq : (strokeEnded s).thr.request ≠ .off := by
    obtain ⟨-, -, -, -, -, hneeds, -⟩ := h
    exact hneeds hp
  obtain ⟨hcutter, hanneal, hvalve, hfeed, hheld, hjet⟩ := strokeEnded_released h hp
  rw [cutterDoneTaken]
  split
  · exact cutCompleted_safe
      (State.released.safe_of_resting ⟨hcutter, hanneal, hvalve, hfeed, hheld, hjet⟩ (.inl rfl))
  next hcut =>
    have hthread : (strokeEnded s).thr.request = .thread := by
      cases hr : (strokeEnded s).thr.request with
      | off => exact absurd hr hreq
      | cut => exact absurd hr hcut
      | thread => rfl
    refine atBoundary_safe hstroke ?_
    split
    · have hoff : s.coord.jet = .off := by simpa using hjet
      simp [State.threaderSafe, hcutter, hanneal, hvalve, hfeed, hthread, hoff, Phase.attempting]
    · exact State.released.safe ⟨hcutter, hanneal, hvalve, hfeed, hheld, hjet⟩ (fun _ => hthread) nofun

theorem cutterFault_safe (h : s.threaderSafe) : (cutterFault s).threaderSafe := by
  rw [cutterFault]
  split
  · exact haltStation_safe _ _
  · exact strokeEnded_safe h

theorem wireBroken_safe (h : s.threaderSafe) : (wireBroken s).threaderSafe := by
  refine breakTaken_safe _ (State.threaderSafe.of_same (s := s.modThr fun t =>
    { t with wire := .unthreaded, tension := false, phase := if t.phase = .done then .idle else t.phase }) ?_ rfl rfl)
  by_cases hp : s.thr.phase = .done
  · have hreleased := h.released_of_resting (.inr hp) ?_
    · obtain ⟨hcutter, hanneal, hvalve, hfeed, hheld, hjet⟩ := hreleased
      exact State.released.safe_of_resting ⟨hcutter, hanneal, hvalve, hfeed, hheld, hjet⟩ (.inl (if_pos hp))
    · obtain ⟨-, -, -, -, -, -, hheld, -⟩ := h
      exact Bool.eq_false_iff.2 fun ht => Phase.noConfusion (hp.symm.trans (hheld ht).1)
  · simp only [State.threaderSafe, State.modThr_thr, State.modThr_coord, if_neg hp]
    exact h

/-! ### Machine/Events.lean -/

/-- What an owner does with an event it watches for: the watch names the phase that the event finds. -/
theorem actOn_safe {i : Input} {l : Level} (h : s.threaderSafe) (hw : s.watches i l = true) :
    (actOn i l s).threaderSafe := by
  cases i with
  | contact =>
    obtain ⟨hp, -⟩ : s.thr.phase = .feed ∧ l = .asserted := by simpa [State.watches] using hw
    exact contactTaken_safe h hp
  | tensionOk =>
    rw [actOn]
    split
    next => exact wireBroken_safe h
    next hbreak =>
      obtain ⟨hp, -⟩ : s.thr.phase = .tension ∧ l = .asserted := by simpa [State.watches, hbreak] using hw
      exact enterDone_safe h hp
  | cutterDone =>
    obtain ⟨⟨hp, -⟩, -⟩ : (s.thr.phase = .cutTip ∧ s.thr.cutter = true) ∧ l = .asserted := by
      simpa [State.watches] using hw
    exact cutterDoneTaken_safe h hp
  | supplySag =>
    obtain ⟨⟨hp, -⟩, -⟩ : (s.thr.phase = .anneal ∧ s.thr.sagBlank = none) ∧ l = .asserted := by
      simpa [State.watches] using hw
    exact attemptFailed_safe _ h (by rw [hp]; rfl)
  | drop => exact dropTaken_safe h
  | wireLow | limit => exact haltStation_safe _ _

theorem takeEvent_safe (i : Input) (l : Level) (h : s.threaderSafe) : (takeEvent i l s).threaderSafe := by
  rw [takeEvent]
  split
  next hw => exact actOn_safe h hw
  next => exact h

theorem derive_safe (h : s.threaderSafe) : (derive s).threaderSafe := h.of_same (by simp) (by simp)

theorem conclude_safe (b : State) (h : s.threaderSafe) : (conclude b s).threaderSafe :=
  h.of_same (by simp [conclude]) (by simp [conclude])

theorem drain_safe : ∀ (n : Nat) {s : State}, s.threaderSafe → (drain n s).threaderSafe
  | 0, _, h => h
  | n + 1, s, h => by
    rw [drain]
    split
    · exact h
    · exact drain_safe n (conclude_safe _ (takeEvent_safe _ _ h))

theorem finish_safe (b : State) (h : s.threaderSafe) : (finish b s).threaderSafe :=
  drain_safe 16 (conclude_safe _ (annealTest_safe (drain_safe 16 (conclude_safe b h))))

theorem sampleInput_safe (i : Input) (a b : Level) (h : s.threaderSafe) : (sampleInput i a b s).threaderSafe := by
  have hsampled : (modFilter i (fun _ => (s.filters.get i).sample2 a b) s).threaderSafe := h
  rw [sampleInput]
  split
  · exact h
  dsimp only
  split
  · exact hsampled
  · split
    next hw => exact finish_safe _ (actOn_safe hsampled hw)
    next => exact hsampled

end Sys2Proof.Machine
end

section
/-! Every command keeps Threader Control's outputs in their phases: O8. -/

namespace Sys2Proof.Machine

variable {s t u : State}

/-- A restarted Threader Control, and no claim. -/
theorem safe_of_poweredOn (hthr : s.thr = Threader.poweredOn) (hjet : s.coord.jet = .off) : s.threaderSafe := by
  simp only [State.threaderSafe, hthr, hjet]
  decide

/-! ### Power and the station -/

theorem execPowerOn_safe (n : Fin 8) (p f : Fin 16) (s : State) : Answers State.threaderSafe (execPowerOn n p f s) := by
  obtain ⟨nest, reports, hx, -⟩ := execPowerOn_next n p f s
  rw [hx, answers_next]
  exact safe_of_poweredOn rfl rfl

theorem enterPowerDown_safe (s : State) : (enterPowerDown s).threaderSafe := by
  have hstop : (stopThreader (flush s)).threaderSafe := stopThreader_safe _
  rw [enterPowerDown]
  exact hstop.of_same (by simp [portPowerDown]) (by simp [portPowerDown])

theorem resetStation_safe (s : State) : (resetStation s).threaderSafe := by
  rw [resetStation_clears]
  exact safe_of_poweredOn rfl rfl

/-! ### The job -/

theorem answer_safe (st : Status) (bytes : List Byte) (h : s.threaderSafe) : (answer st bytes s).threaderSafe := h

theorem jobGate_safe {takenIn : List Station} {body : State → State} (h : s.threaderSafe)
    (hbody : (body s).threaderSafe) : (jobGate takenIn body s).threaderSafe := by
  rw [jobGate]
  split
  · exact h
  · split
    · exact hbody
    · exact h

/-- A held thread has its request, and starts again at CUT_TIP with its outputs released (R130). -/
theorem resumeThread_safe (h : s.threaderSafe) : (resumeThread s).threaderSafe := by
  rw [resumeThread]
  split
  · exact actSkip_safe _ h
  split
  next hheld =>
    obtain ⟨hcutter, hanneal, hvalve, hfeed, -, -, hwait, hjet⟩ := h
    obtain ⟨hp, hreq⟩ := hwait hheld
    refine enterCutTip_safe ?_ (by rw [State.modThr_thr, hreq]; exact nofun)
    constructor <;> simp_all
  next => exact h

theorem doOwed_safe (o : OwedStep) (h : s.threaderSafe) : (doOwed o s).threaderSafe := by
  cases o with
  | recovery => exact beginRecovery_safe _ h
  | routeStep => exact routeAfterCut_safe h
  | wireCut | tensionCut => exact requestCut_safe _ h
  | select => exact selectionPoint_safe h

theorem leaveHeld_safe (h : s.threaderSafe) : (leaveHeld s).threaderSafe := by
  rw [leaveHeld]
  split
  · exact doOwed_safe _ h
  · exact resumeThread_safe h

theorem abortJob_safe (s : State) : (abortJob s).threaderSafe :=
  (stopThreader_safe (flush s)).of_same (by simp [abortJob]) (by simp [abortJob])

theorem enterRun_safe (h : s.threaderSafe) : (enterRun s).threaderSafe :=
  selectionPoint_safe (h.of_same (by simp) (by simp))

theorem skipPart_safe (h : s.threaderSafe) : Answers State.threaderSafe (execSkipPart s) := by
  rw [execSkipPart, answers_next]
  split
  · refine jobGate_safe h ?_
    split
    · split
      · rw [skipCurrent]
        split
        · exact finish_safe _ (actSkip_safe true h)
        · exact h
      · rw [skipOther]
        split <;> exact h.of_same (by simp) (by simp)
    · exact h
  · exact h

/-! ### The cell -/

theorem completeFrame_safe (n : Notice) (h : s.threaderSafe) : (completeFrame n s).threaderSafe := by
  rw [completeFrame]
  split
  · exact h
  · refine h.of_same (by simp) ?_
    simp only [State.modCoord_coord, apply_ite Coordination.jet, ite_self]
    simp

theorem returnLine_safe (h : s.threaderSafe) : (returnLine s).threaderSafe := by
  rcases returnLine_cases s with ⟨-, hr⟩ | ⟨-, hr⟩ <;> rw [hr] <;> exact h

theorem restoreLine_safe (h : s.threaderSafe) : (restoreLine s).threaderSafe := by
  rw [restoreLine]
  split
  · exact grantTest_safe (derive_safe (returnLine_safe h))
  · exact h

theorem transmissionComplete_safe (h : s.threaderSafe) : Answers State.threaderSafe (execTransmissionComplete s) := by
  rw [execTransmissionComplete, answers_next]
  split
  next n _ _ =>
    split
    · exact (returnLine_safe (s := s.modCoord fun c => { c with drawn := n.draw }) h).of_same rfl rfl
    · exact finish_safe _ ((restoreLine_safe (completeFrame_safe n h)).of_same rfl rfl)
  next => exact h

theorem seeNotice_safe (n : Notice) (h : s.threaderSafe) : (seeNotice n s).threaderSafe := by
  rw [seeNotice]
  split
  · exact h
  · exact h.of_same (by simp) (by simp)

theorem conflictTest_safe (peer : StationNo) (n : Notice) (h : s.threaderSafe) :
    (conflictTest peer n s).threaderSafe := by
  rw [conflictTest]
  split
  next hyields =>
    have hjet : s.coord.jet = .holding := by
      simp only [State.yieldsTo, Bool.and_eq_true, beq_iff_eq] at hyields
      exact hyields.1.1.1
    exact jetConflict_safe peer h (by rw [hjet]; exact nofun)
  next => exact h

theorem peerNotice_safe (peer : StationNo) (n : Notice) (h : s.threaderSafe) :
    (peerNotice peer n s).threaderSafe := by
  have hfound : (if (s.peer peer).isNone then queueReport .peerFound none none peer.val s else s).threaderSafe := by
    split
    · exact queueReport_safe h
    · exact h
  have hset := hfound.of_same (t := setPeer peer (some n.entry) _) rfl rfl
  exact conflictTest_safe _ _ (grantTest_safe (derive_safe (seeNotice_safe n hset)))

theorem ownNumberNotice_safe (n : Notice) (h : s.threaderSafe) : (ownNumberNotice n s).threaderSafe := by
  rw [ownNumberNotice]
  split
  · exact haltStation_safe _ _
  · exact seeNotice_safe n h

theorem lineActivity_safe (h : s.threaderSafe) : (lineActivity s).threaderSafe := by
  rw [lineActivity]
  split <;> exact h

theorem noticeArrival_safe (frame : List Byte) (h : s.threaderSafe) :
    Answers State.threaderSafe (execNoticeArrival frame s) := by
  have hline := lineActivity_safe h
  rw [execNoticeArrival, answers_next]
  (repeat' split)
  · exact h
  · exact hline
  · exact hline
  · exact finish_safe _ (ownNumberNotice_safe _ hline)
  · exact finish_safe _ (peerNotice_safe _ _ hline)

/-! ### The servo period -/

theorem handOver_safe (o : Option HandOver) (h : s.threaderSafe) : (handOver o s).threaderSafe := by
  unfold handOver
  split
  · exact h
  · exact moveArrived_safe h
  · exact actSkip_safe _ h
  · exact stopTaken_safe _ _ _ h
  · exact faultTaken_safe _ h
  · exact breakTaken_safe _ h
  · exact h.of_same (by simp) (by simp)

/-- A millisecond on, the timers alone have moved in Threader Control. -/
theorem ticked_safe (h : s.threaderSafe) : s.ticked.threaderSafe := h

theorem servoPeriodExpiry_safe (h : s.threaderSafe) : Answers State.threaderSafe (exec .servoPeriodExpiry s) := by
  by_cases hd : s.seq.station = .powerDown
  · rw [exec, execServoPeriodExpiry, if_pos hd, answers_next]
    exact h
  · rw [servo_eq hd (Prod.mk.eta).symm, answers_next]
    have hmoved : (s.periodEnd (motion s.ticked).1).threaderSafe :=
      (ticked_safe h).of_same (by simp [State.periodEnd]) (by simp [State.periodEnd])
    exact finish_safe _ (handOver_safe _ hmoved)

theorem emission_safe (h : s.threaderSafe) : Answers State.threaderSafe (execEmission s) := by
  intro t ht
  rcases execEmission_cases ht with rfl | ⟨part, e, r, rfl⟩
  · exact h
  · rw [placeTaken]
    split <;> exact h

/-! ### Threader Control's timers -/

theorem phaseTimed_phase {p : Phase} (h : s.phaseTimed p = true) : s.thr.phase = p := by
  simp only [State.phaseTimed, Bool.and_eq_true, beq_iff_eq] at h
  exact h.1

/-- The tension check waits in IDLE or DONE: an attempt is a thread's work. -/
theorem checkingTension_released (h : s.threaderSafe) (hcheck : s.checkingTension = true) :
    s.thr.request = .cut ∧ s.released := by
  simp only [State.checkingTension, Bool.and_eq_true, beq_iff_eq, bne_iff_ne] at hcheck
  obtain ⟨⟨⟨hreq, -⟩, hphase⟩, -⟩ := hcheck
  have ⟨_, _, _, _, hattempt, _, hheld, _⟩ := h
  have hp : s.thr.phase.resting := by
    cases hp : s.thr.phase <;> simp_all [Phase.attempting, Phase.resting]
  exact ⟨hreq, h.released_of_resting hp
    (Bool.eq_false_iff.2 fun ht => WireRequest.noConfusion (hreq.symm.trans (hheld ht).2))⟩

/-- Every command keeps each output in its phase. -/
theorem exec_safe (c : Instr) (h : s.threaderSafe) : Answers State.threaderSafe (exec c s) := by
  have hself : Answers State.threaderSafe (.next s) := (answers_next _ _).2 h
  cases c with
  | powerOn n p f => exact execPowerOn_safe n p f s
  | servoPeriodExpiry => exact servoPeriodExpiry_safe h
  | emission => exact emission_safe h
  | skipPart => exact skipPart_safe h
  | transmissionComplete => exact transmissionComplete_safe h
  | noticeArrival frame => exact noticeArrival_safe frame h
  | cellFrameDiscard => exact (answers_next _ _).2 (lineActivity_safe h)
  | dropInputChange l m | limitInput l m | wireLowInput l m | cutterDone l m | supplySag l m | contact l m
      | tensionOkChange l m =>
    exact (answers_next _ _).2 (sampleInput_safe _ l m h)
  | powerWarn =>
    rw [exec, execPowerWarn, answers_next]
    split
    case h_5 | h_6 => exact h
    all_goals exact enterPowerDown_safe s
  | setup | loadCondition | loadPath | loadPart | clearStore | startJob =>
    simp only [exec, execSetup, execLoadCondition, execLoadPath, execLoadPart, execClearStore, execStartJob,
      answers_next]
    split
    · refine jobGate_safe h ?_
      (repeat' split) <;> exact h
    · exact h
  | readStatus | readPart | readPeers | readReports | unknownRequest | responseSent | requestArrival
      | jobLinkFrameDiscard | jobLinkByteTimeout | pulseMeasurement | spacingTimerExpiry | refreshTimerExpiry =>
    simp only [exec, execReadStatus, execReadPart, execReadPeers, execReadReports, execUnknownRequest,
      execResponseSent, execRequestArrival, execJobLinkFrameDiscard, execJobLinkByteTimeout, hunt,
      execPulseMeasurement, execSpacingTimerExpiry, execRefreshTimerExpiry, answers_next]
    (repeat' split) <;> exact h
  | hold =>
    rw [exec, execHold, answers_next]
    split
    · refine jobGate_safe h ?_
      split
      · exact finish_safe _ (holdThread_safe (s := s.modSeq fun q => { q with station := .held }) h)
      · exact h
    · exact h
  | resume =>
    rw [exec, execResume, answers_next]
    split
    · exact jobGate_safe h (finish_safe _ (answer_safe _ _ (leaveHeld_safe h)))
    · exact h
  | abort =>
    rw [exec, execAbort, answers_next]
    split
    · exact jobGate_safe h (finish_safe _ (answer_safe _ _ (abortJob_safe s)))
    · exact h
  | resetStation =>
    rw [exec, execResetStation, answers_next]
    split
    · split
      · exact h
      · exact finish_safe _ (answer_safe _ _ (resetStation_safe s))
    · exact h
  | validationWalkEnd =>
    rw [exec, execValidationWalkEnd, answers_next]
    split
    · dsimp only
      split
      · exact h
      · exact finish_safe _ (enterRun_safe h)
    · exact h
  | transmitStart | collision =>
    simp only [exec, execTransmitStart, execCollision, answers_next]
    (repeat' split)
    · exact h
    · exact finish_safe _ h
    · exact h
  | peerExpiry n =>
    rw [exec, execPeerExpiry, answers_next]
    split
    · exact finish_safe _ (grantTest_safe (derive_safe (queueReport_safe h)))
    · exact h
  | settleTimerExpiry =>
    rw [exec, execSettleTimerExpiry, answers_next]
    split
    next hpending =>
      refine finish_safe _ (grantTest_safe ?_)
      obtain ⟨-, hjet⟩ := hpending
      obtain ⟨hcutter, hanneal, hvalve, hfeed, hattempt, hstroke, hheld, hclaim⟩ := h
      exact ⟨hcutter, hanneal, fun hopen => absurd (hjet.symm.trans (hvalve hopen).2) nofun, hfeed, hattempt, hstroke,
        hheld, fun _ => hclaim (by rw [hjet]; exact nofun)⟩
    next => exact h
  | lineTimerExpiry =>
    rw [exec, execLineTimerExpiry, answers_next]
    split
    · refine finish_safe _ ?_
      rw [enterDegraded]
      split
      · exact h
      · exact queueReport_safe h
    · exact h
  | listenTimerExpiry =>
    rw [exec, execListenTimerExpiry, answers_next]
    split
    · exact finish_safe _ (h.of_same (by simp) (by simp))
    · exact h
  | dropWindowExpiry =>
    rw [exec, execDropWindowExpiry, answers_next]
    split
    · exact finish_safe _ (windowExpired_safe _ h)
    · exact h
  | cutTipTimeout =>
    rw [exec, execCutTipTimeout, answers_next]
    split
    · exact finish_safe _ (cutterFault_safe h)
    · exact h
  | sagBlankExpiry =>
    rw [exec, execSagBlankExpiry, answers_next]
    split
    · have hwatched : (s.modThr fun t => { t with sagBlank := none }).threaderSafe := h
      exact finish_safe _ (hwatched.of_same (by simp [sagWatch]) (by simp [sagWatch]))
    · exact h
  | annealExpiry =>
    rw [exec, execAnnealExpiry, answers_next]
    split
    next hp => exact finish_safe _ (annealEnded_safe h (phaseTimed_phase hp))
    next => exact h
  | jetWaitLimitExpiry | feedTimeout | tensionTimeout =>
    simp only [exec, execJetWaitLimitExpiry, execFeedTimeout, execTensionTimeout, answers_next]
    split
    next hp => exact finish_safe _ (attemptFailed_safe _ h (by rw [phaseTimed_phase hp]; rfl))
    next => exact h
  | tensionCheckExpiry =>
    rw [exec, execTensionCheckExpiry, answers_next]
    split
    next hcheck =>
      obtain ⟨hreq, hreleased⟩ := checkingTension_released h hcheck
      have hcut : (enterCutTip s).threaderSafe := enterCutTip_safe hreleased (by rw [hreq]; exact nofun)
      exact finish_safe _ hcut
    next => exact h

end Sys2Proof.Machine

open Sys2Proof Sys2Proof.Machine

/-- Settles O8: each operation keeps the invariant from the phase that its own guard gives. -/
theorem stepKeepsOutputsInTheirPhases : Obligations.StepKeepsOutputsInTheirPhases := by
  intro s t h hstep
  rw [step] at hstep
  split at hstep
  next =>
    cases hstep
    exact h
  next c rest _ =>
    have hqueue : (s.setPending rest).threaderSafe := h
    exact exec_safe c hqueue t hstep
end

section
/-! The sag blank, the end of the anneal and the tension check (R124, R125, R132, R163), and the notice that leaving
ANNEAL makes due (R90, R156): O49. -/

namespace Sys2Proof.Machine

variable {s t u : State}

/-! ### The three expiries -/

/-- The sag watch with SUPPLY_SAG clear (R124). -/
theorem sagWatch_eq (h : s.filters.supplySag.level = .clear) :
    sagWatch s =
      { s with thr := { s.thr with sagBlank := none }
               filters := { s.filters with supplySag := { s.filters.supplySag with expected := .clear } } } := by
  rw [sagWatch, expect_of_level (i := .supplySag) (by exact h)]
  rfl

/-- The anneal ended with no skip owed: a new claim is taken (R124, R163). -/
theorem annealEnded_eq (hs : s.seq.skipOwed = false) (hjet : s.coord.jet = .off) :
    annealEnded s =
      { s with thr := { s.thr with anneal := false, phase := .jetClaim, timer := some 120000, sagBlank := none }
               coord := { s.coord with jet := .pending, stamp := (s.coord.cmax + 1) % 65536, completed := false }
               filters := { s.filters with supplySag := s.filters.supplySag.followed } } := by
  have hclaim (v : State) (hv : v.coord.jet = .off) : claimJet v = v.modCoord fun c =>
      { c with jet := .pending, stamp := (c.cmax + 1) % 65536, completed := false } := by
    rw [claimJet, State.modCoord, State.modCoord, if_pos hv]
  rw [annealEnded, atBoundary_next (by exact hs), enterJetClaim, hclaim _ (by exact hjet), follow_eq]
  rfl

/-! ### No operation at a boundary enters ANNEAL_WAIT or ANNEAL -/

theorem heavy_congr (hthr : t.thr = s.thr) : t.heavy = s.heavy := by rw [State.heavy, State.heavy, hthr]

theorem enterCutTip_light (s : State) : (enterCutTip s).heavy = false := by
  simp [State.heavy, enterCutTip]

theorem requestCut_light (check : Bool) (h : s.heavy = false) : (requestCut check s).heavy = false := by
  have hdiscarded : (discardRequest s).heavy = false := by
    rw [discardRequest]
    split
    · exact h
    · rfl
  rw [requestCut]
  split
  · exact hdiscarded
  · exact enterCutTip_light _

theorem beginCut_light (check : Bool) (h : s.heavy = false) : (beginCut check s).heavy = false := by
  rw [beginCut]
  split
  · exact h
  · exact requestCut_light check h

theorem skipWorked_light (p : PartNo) (c : Cause) (h : s.heavy = false) : (skipWorked p c s).heavy = false :=
  beginCut_light _ ((heavy_congr (by simp)).trans h)

theorem haltStation_light (code : HaltCode) (s : State) : (haltStation code s).heavy = false := by
  have hstop : (stopThreader (flush s)).heavy = false := rfl
  rw [haltStation]
  split
  · exact (heavy_congr (by simp)).trans hstop
  · exact (heavy_congr (by simp)).trans hstop

theorem skipThreadLimit_light (p : PartNo) (h : s.heavy = false) : (skipThreadLimit p s).heavy = false := by
  rw [skipThreadLimit]
  split
  · exact haltStation_light _ _
  · exact beginCut_light _ ((heavy_congr (by simp)).trans h)

theorem threadLimitReached_light (h : s.heavy = false) : (threadLimitReached s).heavy = false := by
  rw [threadLimitReached]
  split
  · exact h
  split
  · exact requestCut_light _ h
  · exact skipWorked_light _ _ h
  · exact skipThreadLimit_light _ h
  · split
    · exact skipWorked_light _ _ h
    · exact skipThreadLimit_light _ h

/-- The skip of the current part withdraws a thread in hand to IDLE (R129). -/
theorem actSkip_light (hcur : s.seq.current.isSome = true) (hreq : s.thr.request = .thread) :
    (actSkip true s).heavy = false := by
  have hwithdrawn (v : State) (hv : v.thr.request = .thread) : (withdrawThread v).heavy = false := by
    rw [withdrawThread, if_pos hv]
    dsimp only
    split
    · rfl
    · rfl
  rw [actSkip]
  split
  next hnone => rw [hnone] at hcur; cases hcur
  next =>
    have hidle := hwithdrawn (closeWindow (flush (s.modSeq fun q => { q with skipOwed := false })))
      (by simpa using hreq)
    exact beginCut_light _ ((heavy_congr (by simp)).trans hidle)

theorem atBoundary_light {next : State → State} (hskip : s.seq.skipOwed = true → s.seq.current.isSome = true)
    (hreq : s.thr.request = .thread) (hnext : (next s).heavy = false) : (atBoundary next s).heavy = false := by
  rw [atBoundary]
  split
  next howed => exact actSkip_light (hskip howed) hreq
  next => exact hnext

theorem annealEnded_light (hskip : s.seq.skipOwed = true → s.seq.current.isSome = true)
    (hreq : s.thr.request = .thread) : (annealEnded s).heavy = false :=
  atBoundary_light hskip hreq rfl

theorem attemptFailed_light (f : ThreadFailure) (hskip : s.seq.skipOwed = true → s.seq.current.isSome = true)
    (hreq : s.thr.request = .thread) : (attemptFailed f s).heavy = false := by
  rw [attemptFailed]
  refine atBoundary_light (by simpa using hskip) (by simpa [endAttempt_thr] using hreq) ?_
  split
  · exact threadLimitReached_light rfl
  · exact enterCutTip_light _

/-! ### The notice that leaving ANNEAL makes due (R156) -/

/-- A notice is due and the Port does not stand QUIET. -/
def State.noticeReady (t : State) : Prop := t.port.due = true ∧ t.port.tx ≠ .quiet

theorem setDue_ready (htx : s.port.tx ≠ .silent) : (setDue s).noticeReady := by
  simp only [State.noticeReady, setDue, State.modPort]
  cases hport : s.port.tx <;> simp_all

/-- A due mark set stays, for no effect at an event's end writes the Port but to set it. -/
theorem conclude_ready (b : State) (h : u.noticeReady) : (conclude b u).noticeReady := by
  obtain ⟨hdue, htx⟩ := h
  have hderived : (derive u).noticeReady := by simpa [State.noticeReady] using ⟨hdue, htx⟩
  rw [conclude, announce]
  split
  · by_cases hsilent : u.port.tx = .silent
    · simpa [State.noticeReady, setDue, hsilent] using hdue
    · exact setDue_ready (by simpa using hsilent)
  · exact hderived

/-- An event that ends the heavy draw leaves a notice due, whatever follows in it. -/
theorem finish_ready (hb : s.heavy = true) (hu : u.heavy = false) (hport : u.port.tx ≠ .silent) :
    (finish s u).noticeReady := by
  refine finish_keeps ?_ fun v x _ _ hx hv => conclude_ready v (by rw [State.noticeReady, hx]; exact hv)
  have hchanged : noticeChanged s (derive u) = true := by
    have hlight : (derive u).heavy = false := (heavy_congr (by simp)).trans hu
    simp [noticeChanged, hb, hlight]
  rw [conclude, announce, if_pos hchanged]
  exact setDue_ready (by simpa using hport)

end Sys2Proof.Machine

open Sys2Proof Sys2Proof.Machine

/-- Settles O49: each expiry by its one effect; and what leaves ANNEAL is no longer heavy, so the first conclusion of
the event sets the due mark, which nothing after it takes back. -/
theorem threadingTimersGoOn : Obligations.ThreadingTimersGoOn := by
  refine ⟨fun s hr =>
      ⟨fun hp hblank hclear => ?_, fun hp htimer hs hjet => ?_, fun hreq hcheck hp htimer hclear => ?_⟩,
    fun s hsafe hskip hp hd htx => ⟨fun htimer => ?_, fun hblank hidle => ?_⟩⟩
  · refine ⟨finish s (sagWatch s), ?_, ?_⟩
    · rw [exec, execSagBlankExpiry, if_pos ⟨hp, hblank⟩]
    · rw [sagWatch_eq hclear]
      exact finish_settles _ s ⟨hr, by rw [hp]; exact nofun⟩
  · refine ⟨finish s (annealEnded s), ?_, ?_⟩
    · rw [exec, execAnnealExpiry, if_pos (by simp [State.phaseTimed, hp, htimer])]
    · rw [annealEnded_eq hs hjet]
      exact finish_settles _ s ⟨hr, nofun⟩
  · have hwaits : s.checkingTension = true := by
      rcases hp with hp | hp <;> simp [State.checkingTension, hreq, hcheck, hp, htimer]
    refine ⟨finish s (enterCutTip s), ?_, ?_⟩
    · rw [exec, execTensionCheckExpiry, if_pos hwaits]
    · rw [enterCutTip_eq hclear]
      exact finish_settles _ s ⟨hr, nofun⟩
  all_goals
    obtain ⟨hreq, -⟩ := hsafe.attempt (by rw [hp]; rfl)
    have hheavy : s.heavy = true := by simp [State.heavy, hp]
  · refine ⟨finish s (annealEnded s), ?_, finish_ready hheavy (annealEnded_light hskip hreq) (by simpa using htx)⟩
    rw [exec, execAnnealExpiry, if_pos (by simp [State.phaseTimed, hp, htimer])]
  · have hsag := sampleInput_rise (i := .supplySag) hd hidle (by simp [State.watches, hp, hblank])
    exact ⟨_, congrArg Host.Outcome.next hsag,
      finish_ready hheavy (attemptFailed_light _ hskip hreq) (by simpa [actOn] using htx)⟩
end

section
/-! The settle timer's grant test and the jet given back to an earlier holder (R126, R164 to R167): O57. -/

namespace Sys2Proof.Machine

variable {s u v : State} {m : StationNo} {n : Notice}

/-! ### The grant (R126, R164, R165) -/

/-- The settle timer ended: the claim WAITING. -/
def State.claimSettled (s : State) : State := s.modCoord fun c => { c with jet := .waiting, settle := none }

theorem settleTimer_taken (hjet : s.coord.jet = .pending) (hsettle : s.coord.settle.isSome = true) :
    exec .settleTimerExpiry s = .next (finish s (grantTest s.claimSettled)) := by
  rw [exec, execSettleTimerExpiry, if_pos ⟨hsettle, hjet⟩]
  rfl

/-- FEED with CONTACT clear (R126). -/
theorem enterFeed_eq (h : u.filters.contact.level = .clear) :
    enterFeed u =
      { u with thr := { u.thr with valve := true, feed := true, phase := .feed
                                   timer := some (if u.thr.mode = some .slot then 25000 else 15000) }
               filters := { u.filters with contact := { u.filters.contact with expected := .clear } } } := by
  rw [enterFeed, expect_of_level (i := .contact) (by exact h)]
  rfl

theorem grantTest_passes (hjet : u.coord.jet = .waiting) (hpass : u.grantPasses = true) (hs : u.seq.skipOwed = false)
    (hc : u.filters.contact.level = .clear) :
    grantTest u =
      { u with
        coord := { u.coord with jet := .holding }
        thr := { u.thr with valve := true, feed := true, phase := .feed
                            timer := some (if u.thr.mode = some .slot then 25000 else 15000) }
        filters := { u.filters with contact := { u.filters.contact with expected := .clear } } } := by
  rw [grantTest, if_pos ⟨hjet, hpass⟩, grant, atBoundary_next (by exact hs), enterFeed_eq (by exact hc)]
  rfl

theorem grantTest_fails (h : u.coord.jet ≠ .waiting ∨ u.grantPasses = false) : grantTest u = u := by
  refine if_neg fun ⟨hjet, hpass⟩ => ?_
  rcases h with h | h
  · exact h hjet
  · rw [h] at hpass; cases hpass

/-! ### The conflict (R126, R167) -/

/-- Threader Control, the filters, the reports and the own jet state rewritten. -/
def State.rethreaded (thr : Threader) (filters : Filters) (reports : ReportQueue) (jet : Jet) (w : State) : State :=
  { w with thr := thr, filters := filters, reports := reports, coord := { w.coord with jet := jet } }

section
variable {thr : Threader} {filters : Filters} {reports : ReportQueue} {jet : Jet}

theorem recomputeAllowances_rethreaded (v : State) :
    recomputeAllowances (dropCondition (v.rethreaded thr filters reports jet)) =
      (recomputeAllowances (dropCondition v)).rethreaded thr filters reports jet := by
  rw [dropCondition, dropCondition, apply_ite recomputeAllowances, apply_ite recomputeAllowances,
    apply_ite (State.rethreaded thr filters reports jet)]
  rfl

theorem recomputeLevels_rethreaded (hheavy : (v.rethreaded thr filters reports jet).heavy = v.heavy) :
    recomputeLevels (v.rethreaded thr filters reports jet) =
      (recomputeLevels v).rethreaded thr filters reports jet := by
  have hdraw : (v.rethreaded thr filters reports jet).drawTarget = v.drawTarget := by
    rw [State.drawTarget, hheavy]
    rfl
  rw [recomputeLevels, hdraw]
  rfl

theorem switchGenerator_rethreaded (hwire : thr.wire = v.thr.wire) :
    switchGenerator (v.rethreaded thr filters reports jet) =
      (switchGenerator v).rethreaded thr filters reports jet := by
  have hallowed : (v.rethreaded thr filters reports jet).generatorAllowed = v.generatorAllowed :=
    generatorAllowed_congr rfl hwire rfl rfl
  rw [switchGenerator, hallowed]
  rfl

/-- What follows from others reads of Threader Control the wire and the heavy phases, and nothing of the jet. -/
theorem derive_rethreaded (hwire : thr.wire = v.thr.wire)
    (hheavy : (v.rethreaded thr filters reports jet).heavy = v.heavy) :
    derive (v.rethreaded thr filters reports jet) = (derive v).rethreaded thr filters reports jet := by
  have hsame : (recomputeAllowances (dropCondition v)).thr = v.thr := by simp
  have hlight : ((recomputeAllowances (dropCondition v)).rethreaded thr filters reports jet).heavy =
      (recomputeAllowances (dropCondition v)).heavy := hheavy.trans (heavy_congr hsame).symm
  rw [derive, recomputeAllowances_rethreaded, recomputeLevels_rethreaded hlight,
    switchGenerator_rethreaded (by simpa using hwire)]
  rfl

end

/-- Threader Control in JET_CLAIM again, FEED withdrawn (R126). -/
def Threader.feedWithdrawn (t : Threader) : Threader :=
  { t with valve := false, feed := false, phase := .jetClaim, timer := some 120000, sagBlank := none }

/-- The jet given back to `m`: the claim WAITING with its stamp, JET_CONFLICT queued (R167). -/
def State.jetYielded (m : StationNo) (v : State) : State :=
  v.rethreaded v.thr.feedWithdrawn { v.filters with contact := v.filters.contact.followed }
    (queueReport .jetConflict v.seq.current none (m.val + 65536 * v.coord.stamp) v).reports .waiting

theorem jetConflict_eq (m : StationNo) (v : State) : jetConflict m v = v.jetYielded m := by
  apply State.eq_of_fields
  case h15 =>
    simp [jetConflict, enterJetClaim, State.jetYielded, State.rethreaded, Threader.feedWithdrawn, Config.jetWaitTime]
  case h16 => simp [jetConflict, State.jetYielded, State.rethreaded, Filters.put, Filters.get]
  case h17 => simp [jetConflict, enterJetClaim, claimJet, State.jetYielded, State.rethreaded]
  case h20 => exact queueReport_reports_congr (by simp) (by simp)
  all_goals simp [State.jetYielded, State.rethreaded]

/-- Neither FEED nor JET_CLAIM is heavy, so what follows from others is the same before and after. -/
theorem jetYielded_derive (m : StationNo) (hp : v.thr.phase = .feed) :
    (derive v).jetYielded m = derive (v.jetYielded m) := by
  have hthr : (derive v).thr = v.thr := by simp
  have hfilters : (derive v).filters = v.filters := by simp
  have hstamp : (derive v).coord.stamp = v.coord.stamp := by simp
  have hcurrent : (derive v).seq = v.seq := by simp
  have hreports (d : Nat) : (queueReport .jetConflict v.seq.current none d (derive v)).reports =
      (queueReport .jetConflict v.seq.current none d v).reports := queueReport_reports_congr (by simp) (by simp)
  have hheavy : (v.jetYielded m).heavy = v.heavy := by
    rw [State.heavy, State.heavy, hp]
    rfl
  rw [State.jetYielded, State.jetYielded, derive_rethreaded (thr := v.thr.feedWithdrawn) rfl hheavy, hthr, hfilters,
    hstamp, hcurrent, hreports]

/-- The end of an event that gave the jet back, with what follows from others recomputed before. -/
theorem finish_jetYielded (b : State) (m : StationNo) (hr : v.raised = []) (hp : v.thr.phase = .feed) :
    finish b ((derive v).jetYielded m) = finish b (v.jetYielded m) := by
  have hcalm : (v.jetYielded m).calm := ⟨hr, nofun⟩
  have hcalm' : (derive (v.jetYielded m)).calm := (calm_congr (by simp) (by simp)).2 hcalm
  rw [jetYielded_derive m hp, finish_calm _ b hcalm', finish_calm _ b hcalm, conclude, conclude, derive_derive]

/-- The state in which a notice of `m` has entered the peer table. -/
def State.heard (m : StationNo) (n : Notice) (s : State) : State :=
  { s with port := { s.port with idle := 0 }, coord := { s.coord with peers := s.coord.peers.set m (some n.entry) } }

/-- A HOLD of a known peer with a stamp that C_max does not precede, at a station that holds the jet. -/
theorem peerNotice_hold (hknown : (s.peer m).isSome = true) (hn : n.jet = .hold) (hseen : s.coord.cmaxSeen = true)
    (hstamp : stampPrecedes s.coord.cmax n.stamp = false) (hjet : s.coord.jet = .holding) :
    peerNotice m n s = conflictTest m n (derive (setPeer m (some n.entry) s)) := by
  have hseen' : seeNotice n (setPeer m (some n.entry) s) = setPeer m (some n.entry) s := by
    rw [seeNotice, if_neg (by rw [hn]; exact nofun), seeStamp,
      if_neg (by simp [setPeer, hseen, hstamp])]
  have hfound : (s.peer m).isNone = false := by simpa using hknown
  rw [peerNotice, hfound, if_neg Bool.false_ne_true, hseen', grantTest_fails (.inl (by simp [setPeer, hjet]))]

theorem noticeArrival_peer {frame : List Byte} (hd : s.seq.station ≠ .powerDown) (htx : s.port.tx ≠ .sending)
    (hn : noticeOf frame = some n) (hm : n.station = m.val) (hother : m ≠ s.straps.station) :
    exec (.noticeArrival frame) s =
      .next (finish s (peerNotice m n (s.modPort fun p => { p with idle := 0 }))) := by
  have hback : s.readsBack frame = false := by simp [State.readsBack, htx]
  have hfin : Fin.ofNat 8 n.station = m := Fin.ext (by rw [hm]; exact Nat.mod_eq_of_lt m.isLt)
  have hline : lineActivity s = s.modPort fun p => { p with idle := 0 } := if_neg fun h => hd h.1
  have hne : n.station ≠ s.straps.station.val := by rw [hm]; exact fun h => hother (Fin.ext h)
  rw [exec, execNoticeArrival, hback, if_neg Bool.false_ne_true, if_neg hd, hn]
  dsimp only
  rw [if_neg hne, hfin, hline]

end Sys2Proof.Machine

open Sys2Proof Sys2Proof.Machine

/-- Settles O57: the grant test of a claim that has settled, passed or failed; and the conflict rule at a HOLD whose
claim precedes, where what is recomputed before the jet is given back is recomputed to the same after it. -/
theorem jetIsGrantedAndYielded : Obligations.JetIsGrantedAndYielded := by
  refine ⟨fun s hcalm hjet hsettle => ⟨fun hpass hs hc => ?_, fun hfail => ?_⟩, ?_⟩
  · have hx := settleTimer_taken hjet hsettle
    rw [grantTest_passes rfl (by exact hpass) (by exact hs) (by exact hc)] at hx
    exact ⟨_, hx, finish_settles _ s ⟨hcalm.1, nofun⟩⟩
  · have hx := settleTimer_taken hjet hsettle
    rw [grantTest_fails (.inr (by exact hfail))] at hx
    exact ⟨_, hx, finish_settles _ s hcalm⟩
  · intro s m frame n hr hd hp hjet _ hn hm hother htx hhold hphase hknown hseen hstamp hprec
    have hx := noticeArrival_peer hd htx hn hm hother
    have hyields : (derive (s.heard m n)).yieldsTo m n = true := by
      simp [State.yieldsTo, State.heard, hjet, hhold, hphase, hprec]
    rw [peerNotice_hold (by exact hknown) hhold (by exact hseen) (by exact hstamp) (by exact hjet)] at hx
    change exec (.noticeArrival frame) s = .next (finish s (conflictTest m n (derive (s.heard m n)))) at hx
    rw [conflictTest, if_pos hyields, jetConflict_eq, finish_jetYielded s m (by exact hr) (by exact hp)] at hx
    have hset := finish_settles ((s.heard m n).jetYielded m) s ⟨hr, nofun⟩
    obtain ⟨-, hthr, -⟩ := settles_rest hset
    exact ⟨_, hx, hset, by rw [hthr]; rfl⟩
end

section
/-! A notice's bytes and what is read from them (R155, R181, R182): O15. -/

namespace Sys2Proof.Machine

/-! ### Fields of bytes (R181) -/

theorem length_toBytes (k v : Nat) : (toBytes k v).length = k := by
  induction k generalizing v with
  | zero => rfl
  | succ k ih => rw [toBytes, List.length_cons, ih]

/-- A value comes back from its bytes up to what does not fit in them. -/
theorem leNat_toBytes (k v : Nat) : leNat (toBytes k v) = v % 256 ^ k := by
  induction k generalizing v with
  | zero => rw [toBytes, leNat, pow_zero, Nat.mod_one]
  | succ k ih => rw [toBytes, leNat, ih, BitVec.toNat_ofNat, pow_succ' 256, Nat.mod_mul]

theorem leNat_field_one {bs : List Byte} {i : Nat} {b : Byte} (h : bs[i]? = some b) :
    leNat (field bs i 1) = b.toNat := by
  obtain ⟨hi, rfl⟩ := List.getElem?_eq_some_iff.1 h
  rw [field, List.drop_eq_getElem_cons hi, List.take_succ_cons, List.take_zero, leNat, leNat, Nat.mul_zero, Nat.add_zero]

/-! ### Codes (section 11.6) -/

theorem Announced.ofCode_code (a : Announced) : Announced.ofCode a.code = some a := by cases a <;> rfl

theorem Announced.code_lt (a : Announced) : a.code < 256 := by cases a <;> decide

theorem JetNotice.ofCode_code (j : JetNotice) : JetNotice.ofCode j.code = some j := by cases j <;> rfl

theorem JetNotice.code_lt (j : JetNotice) : j.code < 3 := by cases j <;> decide

/-! ### The frame (R182) -/

/-- Seven bytes whose station number, phase and jet field carry assigned codes, with their check byte, are received as
the fields they hold. -/
theorem noticeOf_checked {b0 b1 b2 b3 b4 b5 b6 : Byte} {phase : Announced} {jet : JetNotice} (hstation : b0.toNat < 8)
    (hphase : Announced.ofCode b1.toNat = some phase) (hjet : JetNotice.ofCode (b4.toNat / 2 % 4) = some jet) :
    noticeOf ([b0, b1, b2, b3, b4, b5, b6] ++ [crc8 [b0, b1, b2, b3, b4, b5, b6]]) =
      some { station := b0.toNat, phase, draw := b2.toNat % 16, flush := b3.toNat % 16,
             heavy := b4.toNat % 2 == 1, jet, stamp := leNat [b5, b6] } := by
  generalize hc : crc8 [b0, b1, b2, b3, b4, b5, b6] = c
  have hbyte {i : Nat} {b : Byte} := leNat_field_one (bs := [b0, b1, b2, b3, b4, b5, b6] ++ [c]) (i := i) (b := b)
  have hcheck : crc8 (([b0, b1, b2, b3, b4, b5, b6] ++ [c]).take 7) = c := hc
  simp only [noticeOf, hcheck, hbyte (i := 0) rfl, hbyte (i := 1) rfl, hbyte (i := 2) rfl, hbyte (i := 3) rfl,
    hbyte (i := 4) rfl, hbyte (i := 7) rfl, hstation, hphase, hjet]
  exact if_pos ⟨rfl, trivial, trivial⟩

/-- The byte of the heavy flag and the jet state. -/
theorem toNat_heavyJet (heavy : Bool) (j : JetNotice) :
    (BitVec.ofNat 8 ((if heavy then 1 else 0) + 2 * j.code)).toNat = (if heavy then 1 else 0) + 2 * j.code := by
  have hj := j.code_lt
  rw [BitVec.toNat_ofNat]
  split <;> omega

theorem heavyJet_heavy (heavy : Bool) (k : Nat) : (((if heavy then 1 else 0) + 2 * k) % 2 == 1) = heavy := by
  cases heavy <;> simp [Nat.add_mod]

theorem heavyJet_jet (heavy : Bool) (j : JetNotice) : ((if heavy then 1 else 0) + 2 * j.code) / 2 % 4 = j.code := by
  have hj := j.code_lt
  split <;> omega

end Sys2Proof.Machine

open Sys2Proof Sys2Proof.Machine

/-- Settles O15: the frame is its seven bytes with their check byte, and each field comes back from its byte. -/
theorem noticeFramesAreReceived : Obligations.NoticeFramesAreReceived := by
  intro n hstation hdraw hflush hstamp
  have hbyte {v : Nat} (h : v < 256) : (BitVec.ofNat 8 v).toNat = v := by
    rw [BitVec.toNat_ofNat]
    exact Nat.mod_eq_of_lt h
  have hs := hbyte (Nat.lt_trans hstation (by decide))
  have hp := hbyte n.phase.code_lt
  have hd := hbyte (Nat.lt_trans hdraw (by decide))
  have hf := hbyte (Nat.lt_trans hflush (by decide))
  have hj := toNat_heavyJet n.heavy n.jet
  have hstampBytes : leNat (toBytes 2 n.stamp) = n.stamp := by
    rw [leNat_toBytes]
    exact Nat.mod_eq_of_lt hstamp
  refine ⟨by simp [Notice.bytes, Notice.body, length_toBytes], ?_⟩
  calc noticeOf n.bytes
    _ = _ := noticeOf_checked (by rw [hs]; exact hstation) (by rw [hp]; exact n.phase.ofCode_code)
      (by rw [hj, heavyJet_jet]; exact n.jet.ofCode_code)
    _ = some n := by
      rw [hs, hd, hf, hj, heavyJet_heavy, Nat.mod_eq_of_lt hdraw, Nat.mod_eq_of_lt hflush]
      exact congrArg (fun v => some { n with stamp := v }) hstampBytes
end

section
/-! The order of claims and the grant test that it makes exclusive (R162, R165, R168): O58. -/

namespace Sys2Proof.Machine

variable {s : State} {a b m n : Nat}

/-! ### The order of claims (R162) -/

/-- Of two stamps at most one precedes the other; neither does where they are equal or 32,768 apart. -/
theorem stampPrecedes_asymm (ha : a < 65536) (hb : b < 65536) (h : stampPrecedes a b = true) :
    stampPrecedes b a = false := by
  simp only [stampPrecedes, Bool.and_eq_true, Bool.and_eq_false_iff, decide_eq_true_eq, decide_eq_false_iff_not] at h ⊢
  omega

/-- By stamp where one stamp precedes, and by station number where neither does. -/
theorem claimPrecedes_total (ha : a < 65536) (hb : b < 65536) (hne : m ≠ n) :
    claimPrecedes a m b n = true ↔ claimPrecedes b n a m = false := by
  cases hab : stampPrecedes a b with
  | true => simp [claimPrecedes, hab, stampPrecedes_asymm ha hb hab]
  | false =>
    cases hba : stampPrecedes b a with
    | true => simp [claimPrecedes, hab, hba]
    | false =>
      simp only [claimPrecedes, hab, hba, Bool.false_or, Bool.not_false, Bool.true_and, decide_eq_true_eq,
        decide_eq_false_iff_not]
      omega

/-! ### The grant test (R165) -/

theorem mem_freshPeers {k : StationNo} {p : Peer} (hp : s.peer k = some p) (hphase : p.phase ≠ .halted) :
    (k, p) ∈ s.freshPeers :=
  List.mem_filterMap.2 ⟨k, List.mem_finRange k, by rw [hp]; exact if_neg hphase⟩

/-- A passed grant test had the own claim precede the claim of each fresh peer. -/
theorem grantPasses_precedes {k : StationNo} {p : Peer} (hpass : s.grantPasses = true) (hp : s.peer k = some p)
    (hphase : p.phase ≠ .halted) (hjet : p.jet = .claim) :
    claimPrecedes s.coord.stamp s.straps.station.val p.stamp k.val = true := by
  rw [State.grantPasses, Bool.and_eq_true, List.all_eq_true] at hpass
  obtain ⟨-, hall⟩ := hpass
  have hk := hall _ (mem_freshPeers hp hphase)
  rw [hjet] at hk
  exact hk

end Sys2Proof.Machine

open Sys2Proof Sys2Proof.Machine

/-- Settles O58: two tests passed would have each claim precede the other. -/
theorem grantsExcludeEachOther : Obligations.GrantsExcludeEachOther := by
  refine ⟨fun a b m n ha hb hne => claimPrecedes_total ha hb hne, ?_⟩
  rintro s t p q hne hs ht hp hpphase hpjet hpstamp hq hqphase hqjet hqstamp ⟨hspass, htpass⟩
  have hfirst := grantPasses_precedes hspass hp hpphase hpjet
  have hsecond := grantPasses_precedes htpass hq hqphase hqjet
  rw [hpstamp, claimPrecedes_total hs ht (fun h => hne (Fin.ext h)), ← hqstamp, hsecond] at hfirst
  cases hfirst
end

section
/-! Collisions, the timers of the Cell Line Port, and the peer table (R153, R154, R156, R158, R159, R161, R162): O54
and O55. -/

namespace Sys2Proof.Machine

variable {s u : State} {m : StationNo} {n : Notice}

/-! ### The Cell Line Port's events -/

theorem execCollision_sending (htx : s.port.tx = .sending) (hd : s.seq.station ≠ .powerDown) :
    exec .collision s = .next (finish s
      { s with port := { s.port with
          tx := .backoff, due := true, frame := none, idle := 0
          collisions := min (s.port.collisions + 1) 65535 } }) := by
  rw [exec, execCollision, if_pos htx, if_neg hd]
  rfl

/-- The station in degraded line mode, its line timer stopped and LINE_FAULT queued (R154). -/
def State.lineFaulted (s : State) : State :=
  { s with
    port := { s.port with line := none }, coord := { s.coord with mode := .degraded }
    reports := (queueReport .lineFault none none s.port.collisions s).reports }

theorem execLineTimerExpiry_normal (hline : s.port.line.isSome = true) (hmode : s.coord.mode = .normal) :
    exec .lineTimerExpiry s = .next (finish s s.lineFaulted) := by
  rw [exec, execLineTimerExpiry, if_pos hline, enterDegraded,
    if_neg (by rw [State.modPort_coord, hmode]; exact nofun)]
  rfl

/-- In a settled state of degraded line mode each allowance is the eighth of its budget (R161). -/
theorem settled_degraded (h : s.settled) (hmode : s.coord.mode = .degraded) :
    s.coord.ap = min 15 (budget s.straps.power / 8) ∧ s.coord.af = min 15 (budget s.straps.flush / 8) := by
  obtain ⟨hap, haf, -⟩ := h
  rw [hap, haf, State.powerAllowance, State.flushAllowance, hmode]
  exact ⟨rfl, rfl⟩

theorem execRefreshTimerExpiry_due (h : s.coord.refresh.isSome = true) :
    exec .refreshTimerExpiry s = .next (setDue { s with coord := { s.coord with refresh := none } }) := by
  rw [exec, execRefreshTimerExpiry, if_pos h]
  rfl

/-- From QUIET a due notice takes the Port to READY and starts its line timer (R153, R156). -/
theorem setDue_quiet (h : u.port.tx = .quiet) :
    setDue u = { u with port := { u.port with tx := .ready, due := true, line := some 20 } } := by
  rw [setDue, State.modPort, h]
  rfl

/-- In the states of a transmission to come or under way, only the mark is set (R156). -/
theorem setDue_sounding (h : u.port.tx = .ready ∨ u.port.tx = .sending ∨ u.port.tx = .backoff) :
    setDue u = { u with port := { u.port with due := true } } := by
  rw [setDue, State.modPort]
  rcases h with h | h | h <;> simp only [h]

/-! ### The peer table -/

/-- An event's own recomputation of what follows from others is repeated by its end. -/
theorem finish_derive (b : State) (h : u.calm) : finish b (derive u) = finish b u := by
  have hderived : (derive u).calm := (calm_congr (by simp) (by simp)).2 h
  rw [finish_calm _ b hderived, finish_calm _ b h, conclude, derive_derive, conclude]

/-- A notice moves C_max with CLAIM or HOLD alone, to the first stamp seen or to one that C_max precedes (R162). -/
theorem seeNotice_eq (n : Notice) (u : State) :
    seeNotice n u =
      { u with coord := { u.coord with
          cmax := if n.jet ≠ .off ∧ (u.coord.cmaxSeen = false ∨ stampPrecedes u.coord.cmax n.stamp = true)
                  then n.stamp else u.coord.cmax
          cmaxSeen := u.coord.cmaxSeen || n.jet != .off } } := by
  by_cases hjet : n.jet = .off
  · simp [seeNotice, hjet]
  · by_cases htakes : u.coord.cmaxSeen = false ∨ stampPrecedes u.coord.cmax n.stamp = true
    · rw [seeNotice, if_neg hjet, seeStamp_takes htakes, if_pos ⟨hjet, htakes⟩]
      simp [hjet]
    · have hseen : u.coord.cmaxSeen = true := by simpa using fun h => htakes (.inl h)
      rw [seeNotice, if_neg hjet, seeStamp, if_neg (by simpa using htakes), if_neg fun h => htakes h.2, hseen,
        Bool.true_or, ← hseen]

/-- The state in which a notice of `m` has entered the peer table, C_max has followed its stamp, and PEER_FOUND is
queued where the entry was absent (R158, R162). -/
def State.peerHeard (m : StationNo) (n : Notice) (s : State) : State :=
  { s with
    reports := if (s.peer m).isNone then (queueReport .peerFound none none m.val s).reports else s.reports
    coord := { s.coord with
      peers := s.coord.peers.set m (some n.entry)
      cmax := if n.jet ≠ .off ∧ (s.coord.cmaxSeen = false ∨ stampPrecedes s.coord.cmax n.stamp = true)
              then n.stamp else s.coord.cmax
      cmaxSeen := s.coord.cmaxSeen || n.jet != .off } }

/-- With no claim of its own the station neither takes nor gives back the jet at a peer's notice. -/
theorem peerNotice_off (hjet : s.coord.jet = .off) : peerNotice m n s = derive (s.peerHeard m n) := by
  have hheard : seeNotice n (setPeer m (some n.entry)
      (if (s.peer m).isNone then queueReport .peerFound none none m.val s else s)) = s.peerHeard m n := by
    rw [seeNotice_eq, State.peerHeard]
    split <;> rfl
  have hoff : (derive (s.peerHeard m n)).coord.jet = .off := by simpa [State.peerHeard] using hjet
  rw [peerNotice, hheard, grantTest_off hoff, conflictTest_off hoff]

/-- A peer's expiry, with no claim to test (R159). -/
theorem execPeerExpiry_off (hd : s.seq.station ≠ .powerDown) (hjet : s.coord.jet = .off)
    (hknown : (s.peer m).isSome = true) :
    exec (.peerExpiry m) s =
      .next (finish s (derive (queueReport .peerLost none none m.val (setPeer m none s)))) := by
  rw [exec, execPeerExpiry, if_pos ⟨hknown, hd⟩, grantTest_off (by simpa [setPeer] using hjet)]

end Sys2Proof.Machine

open Sys2Proof Sys2Proof.Machine

/-- Settles O54, event by event. -/
theorem collisionAndLineTimersKeepTheNoticeDue : Obligations.CollisionAndLineTimersKeepTheNoticeDue := by
  refine fun s hcalm => ⟨fun htx hd => ?_, fun hline hmode => ?_, fun hrefresh => ⟨fun htx => ?_, fun htx => ?_⟩⟩
  · exact ⟨_, execCollision_sending htx hd, finish_settles _ s hcalm⟩
  · have hset := finish_settles s.lineFaulted s hcalm
    refine ⟨_, execLineTimerExpiry_normal hline hmode, hset, ?_⟩
    obtain ⟨-, hsettled, -⟩ := hset
    have hdegraded := settled_degraded hsettled (by simp [State.lineFaulted])
    simpa [State.lineFaulted] using hdegraded
  · rw [execRefreshTimerExpiry_due hrefresh, setDue_quiet (by exact htx)]
  · rw [execRefreshTimerExpiry_due hrefresh, setDue_sounding (by exact htx)]

/-- Settles O55: with no claim of its own, the station's part in either event is its peer table, C_max and a report,
and what follows from them. -/
theorem peerTableFollowsTheNotices : Obligations.PeerTableFollowsTheNotices := by
  refine fun s m hcalm hd hjet hother => ⟨fun frame n hn hm htx => ?_, fun hknown => ?_⟩
  · have hx := noticeArrival_peer hd htx hn hm hother
    have hheard : ((s.modPort fun p => { p with idle := 0 }).peerHeard m n).calm := hcalm
    rw [peerNotice_off (by exact hjet), finish_derive s hheard] at hx
    exact ⟨_, hx, finish_settles _ s hheard⟩
  · have hx := execPeerExpiry_off hd hjet hknown
    have hlost : (queueReport .peerLost none none m.val (setPeer m none s)).calm := hcalm
    rw [finish_derive s hlost] at hx
    exact ⟨_, hx, finish_settles _ s hlost⟩
end

section
/-! What no event takes from the Report Queue: the reports held stay in their order in front of what is queued, and the
lost count does not fall (R175): O13. An operation that queues nothing leaves the queue by its frame lemma; those that
may queue a report are taken here one by one. -/

namespace Sys2Proof.Machine

/-- What a queue that held `q` may hold when reports have only been queued or lost since: those of `q` in front, and
no fewer lost, as far as the 16 bits of the count hold them. -/
def ReportQueue.QueuedOnto (q r : ReportQueue) : Prop := q.items <+: r.items ∧ min q.lost 65535 ≤ r.lost

variable {q : ReportQueue} {s : State}

@[simp] theorem ReportQueue.QueuedOnto.refl (q : ReportQueue) : q.QueuedOnto q :=
  ⟨List.prefix_rfl, Nat.min_le_left _ _⟩

/-! ### Machine/Ops.lean -/

/-- A report is queued behind those held, or it is counted lost (R175). -/
@[simp] theorem queuedOnto_queueReport (k p c d) (h : q.QueuedOnto s.reports) :
    q.QueuedOnto (queueReport k p c d s).reports := by
  obtain ⟨hitems, hlost⟩ := h
  rw [queueReport, State.modReports_reports]
  split
  · exact ⟨hitems.trans (List.prefix_append _ _), hlost⟩
  · exact ⟨hitems, by dsimp only; omega⟩

@[simp] theorem queuedOnto_partReport (p c) (h : q.QueuedOnto s.reports) :
    q.QueuedOnto (partReport p c s).reports := queuedOnto_queueReport _ _ _ _ h

@[simp] theorem queuedOnto_interrupt (c p) (h : q.QueuedOnto s.reports) :
    q.QueuedOnto (interrupt c p s).reports := by simp -implicitDefEqProofs [interrupt, h]

theorem queuedOnto_interruptFound (c) (h : q.QueuedOnto s.reports) :
    q.QueuedOnto (interruptFound c s).reports := by
  unfold interruptFound
  induction allParts generalizing s with
  | nil => exact h
  | cons p ps ih =>
    rw [List.foldl_cons]
    refine ih ?_
    split <;> simp -implicitDefEqProofs [h]

@[simp] theorem queuedOnto_interruptCurrent (c) (h : q.QueuedOnto s.reports) :
    q.QueuedOnto (interruptCurrent c s).reports := by
  unfold interruptCurrent; split <;> simp -implicitDefEqProofs [h]

theorem queuedOnto_jobGate {takenIn : List Station} {body : State → State} (hbody : q.QueuedOnto (body s).reports)
    (h : q.QueuedOnto s.reports) : q.QueuedOnto (jobGate takenIn body s).reports := by
  unfold jobGate
  (repeat' split) <;> simp -implicitDefEqProofs [h, hbody]

/-! ### Machine/Sequencer.lean -/

@[simp] theorem queuedOnto_finishPart (p st c) (h : q.QueuedOnto s.reports) :
    q.QueuedOnto (finishPart p st c s).reports := by
  unfold finishPart
  dsimp only
  split <;> simp -implicitDefEqProofs [h]

@[simp] theorem queuedOnto_jobEnd (h : q.QueuedOnto s.reports) : q.QueuedOnto (jobEnd s).reports := by
  simp -implicitDefEqProofs [jobEnd, h]

@[simp] theorem queuedOnto_takeUp (p f) (h : q.QueuedOnto s.reports) : q.QueuedOnto (takeUp p f s).reports := by
  simp -implicitDefEqProofs [takeUp, h]

@[simp] theorem queuedOnto_beginPart (p) (h : q.QueuedOnto s.reports) : q.QueuedOnto (beginPart p s).reports := by
  unfold beginPart
  dsimp only
  (repeat' split) <;> simp -implicitDefEqProofs [h]

@[simp] theorem queuedOnto_selectionPoint (h : q.QueuedOnto s.reports) : q.QueuedOnto (selectionPoint s).reports := by
  unfold selectionPoint; (repeat' split) <;> simp -implicitDefEqProofs [h]

@[simp] theorem queuedOnto_haltStation (c) (h : q.QueuedOnto s.reports) : q.QueuedOnto (haltStation c s).reports := by
  unfold haltStation
  dsimp only
  split <;> simp -implicitDefEqProofs [h]

@[simp] theorem queuedOnto_skipWorked (p c) (h : q.QueuedOnto s.reports) :
    q.QueuedOnto (skipWorked p c s).reports := by simp -implicitDefEqProofs [skipWorked, h]

@[simp] theorem queuedOnto_actSkip (b) (h : q.QueuedOnto s.reports) : q.QueuedOnto (actSkip b s).reports := by
  unfold actSkip
  dsimp only
  (repeat' split) <;> simp -implicitDefEqProofs [h]

theorem queuedOnto_atBoundary {next : State → State} (hn : q.QueuedOnto (next s).reports)
    (h : q.QueuedOnto s.reports) : q.QueuedOnto (atBoundary next s).reports := by
  unfold atBoundary; split <;> simp -implicitDefEqProofs [h, hn]

@[simp] theorem queuedOnto_skipThreadLimit (p) (h : q.QueuedOnto s.reports) :
    q.QueuedOnto (skipThreadLimit p s).reports := by
  unfold skipThreadLimit
  dsimp only
  split <;> simp -implicitDefEqProofs [h]

@[simp] theorem queuedOnto_breakTaken (c) (h : q.QueuedOnto s.reports) : q.QueuedOnto (breakTaken c s).reports := by
  unfold breakTaken
  dsimp only
  (repeat' split) <;> simp -implicitDefEqProofs [h]

@[simp] theorem queuedOnto_cutCompleted (h : q.QueuedOnto s.reports) : q.QueuedOnto (cutCompleted s).reports := by
  unfold cutCompleted
  dsimp only
  (repeat' split) <;> simp -implicitDefEqProofs [h]

@[simp] theorem queuedOnto_moveArrived (h : q.QueuedOnto s.reports) : q.QueuedOnto (moveArrived s).reports := by
  refine queuedOnto_atBoundary ?_ h
  dsimp only
  split <;> simp -implicitDefEqProofs [h]

@[simp] theorem queuedOnto_threadCompleted (h : q.QueuedOnto s.reports) :
    q.QueuedOnto (threadCompleted s).reports := by
  refine queuedOnto_atBoundary ?_ h
  dsimp only
  (repeat' split) <;> simp -implicitDefEqProofs [h]

@[simp] theorem queuedOnto_threadLimitReached (h : q.QueuedOnto s.reports) :
    q.QueuedOnto (threadLimitReached s).reports := by
  unfold threadLimitReached; (repeat' split) <;> simp -implicitDefEqProofs [h]

@[simp] theorem queuedOnto_openWindow (p) (h : q.QueuedOnto s.reports) : q.QueuedOnto (openWindow p s).reports := by
  unfold openWindow
  dsimp only
  split <;> exact queuedOnto_atBoundary (by simp -implicitDefEqProofs [h]) (by simp -implicitDefEqProofs [h])

@[simp] theorem queuedOnto_stopTaken (t a c) (h : q.QueuedOnto s.reports) :
    q.QueuedOnto (stopTaken t a c s).reports := by
  unfold stopTaken
  dsimp only
  (repeat' split) <;> simp -implicitDefEqProofs [h]

@[simp] theorem queuedOnto_faultTaken (f) (h : q.QueuedOnto s.reports) : q.QueuedOnto (faultTaken f s).reports := by
  refine queuedOnto_atBoundary ?_ h
  split <;> simp -implicitDefEqProofs [h]

@[simp] theorem queuedOnto_dropTaken (h : q.QueuedOnto s.reports) : q.QueuedOnto (dropTaken s).reports := by
  unfold dropTaken
  (repeat' split) <;> simp -implicitDefEqProofs [earlyDrop, dropInWindow, unattributedDrop, h]

@[simp] theorem queuedOnto_windowExpired (p) (h : q.QueuedOnto s.reports) :
    q.QueuedOnto (windowExpired p s).reports := by
  unfold windowExpired
  dsimp only
  split <;> simp -implicitDefEqProofs [h]

/-! ### Machine/Threading.lean -/

@[simp] theorem queuedOnto_grantTest (h : q.QueuedOnto s.reports) : q.QueuedOnto (grantTest s).reports := by
  unfold grantTest grant; split
  · exact queuedOnto_atBoundary (by simp -implicitDefEqProofs [h]) (by simp -implicitDefEqProofs [h])
  · exact h

@[simp] theorem queuedOnto_jetConflict (n) (h : q.QueuedOnto s.reports) : q.QueuedOnto (jetConflict n s).reports := by
  simp -implicitDefEqProofs [jetConflict, h]

@[simp] theorem queuedOnto_annealTest (h : q.QueuedOnto s.reports) : q.QueuedOnto (annealTest s).reports := by
  unfold annealTest; split
  · exact queuedOnto_atBoundary (by simp -implicitDefEqProofs [h]) h
  · exact h

@[simp] theorem queuedOnto_annealEnded (h : q.QueuedOnto s.reports) : q.QueuedOnto (annealEnded s).reports :=
  queuedOnto_atBoundary (by simp -implicitDefEqProofs [h]) (by simp -implicitDefEqProofs [h])

@[simp] theorem queuedOnto_contactTaken (h : q.QueuedOnto s.reports) : q.QueuedOnto (contactTaken s).reports :=
  queuedOnto_atBoundary (by simp -implicitDefEqProofs [h]) (by simp -implicitDefEqProofs [h])

@[simp] theorem queuedOnto_enterDone (h : q.QueuedOnto s.reports) : q.QueuedOnto (enterDone s).reports :=
  queuedOnto_threadCompleted (by simp -implicitDefEqProofs [h])

@[simp] theorem queuedOnto_attemptFailed (f) (h : q.QueuedOnto s.reports) :
    q.QueuedOnto (attemptFailed f s).reports := by
  refine queuedOnto_atBoundary ?_ (by simp -implicitDefEqProofs [h])
  split <;> simp -implicitDefEqProofs [h]

@[simp] theorem queuedOnto_cutterDoneTaken (h : q.QueuedOnto s.reports) :
    q.QueuedOnto (cutterDoneTaken s).reports := by
  unfold cutterDoneTaken
  dsimp only
  split
  · simp -implicitDefEqProofs [h]
  · refine queuedOnto_atBoundary ?_ (by simp -implicitDefEqProofs [h])
    split <;> simp -implicitDefEqProofs [h]

@[simp] theorem queuedOnto_cutterFault (h : q.QueuedOnto s.reports) : q.QueuedOnto (cutterFault s).reports := by
  unfold cutterFault
  dsimp only
  split <;> simp -implicitDefEqProofs [h]

@[simp] theorem queuedOnto_wireBroken (h : q.QueuedOnto s.reports) : q.QueuedOnto (wireBroken s).reports :=
  queuedOnto_breakTaken _ (by simp -implicitDefEqProofs [h])

/-! ### Machine/Events.lean -/

@[simp] theorem queuedOnto_actOn (i l) (h : q.QueuedOnto s.reports) : q.QueuedOnto (actOn i l s).reports := by
  unfold actOn; (repeat' split) <;> simp -implicitDefEqProofs [h]

@[simp] theorem queuedOnto_takeEvent (i l) (h : q.QueuedOnto s.reports) :
    q.QueuedOnto (takeEvent i l s).reports := by
  unfold takeEvent; split <;> simp -implicitDefEqProofs [h]

@[simp] theorem queuedOnto_drain (n) (h : q.QueuedOnto s.reports) : q.QueuedOnto (drain n s).reports := by
  induction n generalizing s with
  | zero => exact h
  | succ n ih =>
    unfold drain; split
    · exact h
    · exact ih (by simp -implicitDefEqProofs [conclude, h])

@[simp] theorem queuedOnto_quiesce (b : State) (h : q.QueuedOnto s.reports) :
    q.QueuedOnto (quiesce b s).reports := by simp -implicitDefEqProofs [quiesce, conclude, h]

@[simp] theorem queuedOnto_finish (b : State) (h : q.QueuedOnto s.reports) : q.QueuedOnto (finish b s).reports :=
  queuedOnto_quiesce _ (queuedOnto_annealTest (queuedOnto_quiesce _ h))

@[simp] theorem queuedOnto_sampleInput (i l m) (h : q.QueuedOnto s.reports) :
    q.QueuedOnto (sampleInput i l m s).reports := by
  unfold sampleInput
  dsimp only
  (repeat' split) <;> simp -implicitDefEqProofs [h]

/-! ### Machine/Servo.lean -/

@[simp] theorem queuedOnto_handOver (a) (h : q.QueuedOnto s.reports) : q.QueuedOnto (handOver a s).reports := by
  unfold handOver; split <;> simp -implicitDefEqProofs [h]

@[simp] theorem queuedOnto_servoExpiry (h : q.QueuedOnto s.reports) : q.QueuedOnto (servoExpiry s).reports := by
  unfold servoExpiry
  dsimp only
  exact queuedOnto_finish _ (queuedOnto_handOver _ (by simp -implicitDefEqProofs [h]))

/-! ### Machine/Power.lean, Machine/Cell.lean and Machine/Jobs.lean -/

@[simp] theorem queuedOnto_enterPowerDown (h : q.QueuedOnto s.reports) : q.QueuedOnto (enterPowerDown s).reports := by
  simp -implicitDefEqProofs [enterPowerDown, portPowerDown, h]

@[simp] theorem queuedOnto_resetStation (h : q.QueuedOnto s.reports) : q.QueuedOnto (resetStation s).reports := by
  simp -implicitDefEqProofs [resetStation, followThreaderInputs, wakePort, queuedOnto_interruptFound, h]

@[simp] theorem completeFrame_reports (m : Notice) (s : State) : (completeFrame m s).reports = s.reports := by
  unfold completeFrame; dsimp only; split <;> simp

@[simp] theorem endSending_reports (s : State) : (endSending s).reports = s.reports := rfl

@[simp] theorem queuedOnto_returnLine (h : q.QueuedOnto s.reports) : q.QueuedOnto (returnLine s).reports := by
  unfold returnLine; split <;> simp -implicitDefEqProofs [h]

@[simp] theorem queuedOnto_completeLastFrame (m) (h : q.QueuedOnto s.reports) :
    q.QueuedOnto (completeLastFrame m s).reports := by simp -implicitDefEqProofs [completeLastFrame, endLastFrame, h]

@[simp] theorem queuedOnto_restoreLine (h : q.QueuedOnto s.reports) : q.QueuedOnto (restoreLine s).reports := by
  unfold restoreLine; split <;> simp -implicitDefEqProofs [h]

@[simp] theorem queuedOnto_enterDegraded (h : q.QueuedOnto s.reports) : q.QueuedOnto (enterDegraded s).reports := by
  unfold enterDegraded; split <;> simp -implicitDefEqProofs [h]

@[simp] theorem setPeer_reports (n : StationNo) (e : Option Peer) (s : State) :
    (setPeer n e s).reports = s.reports := rfl

@[simp] theorem seeNotice_reports (n : Notice) (s : State) : (seeNotice n s).reports = s.reports := by
  unfold seeNotice; split <;> simp

@[simp] theorem lineActivity_reports (s : State) : (lineActivity s).reports = s.reports := by
  unfold lineActivity; split <;> simp

@[simp] theorem queuedOnto_conflictTest (p m) (h : q.QueuedOnto s.reports) :
    q.QueuedOnto (conflictTest p m s).reports := by
  unfold conflictTest; split <;> simp -implicitDefEqProofs [h]

@[simp] theorem queuedOnto_peerNotice (p m) (h : q.QueuedOnto s.reports) :
    q.QueuedOnto (peerNotice p m s).reports := by
  unfold peerNotice
  dsimp only
  refine queuedOnto_conflictTest _ _ (queuedOnto_grantTest ?_)
  split <;> simp -implicitDefEqProofs [h]

@[simp] theorem queuedOnto_ownNumberNotice (m) (h : q.QueuedOnto s.reports) :
    q.QueuedOnto (ownNumberNotice m s).reports := by
  unfold ownNumberNotice
  dsimp only
  split <;> simp -implicitDefEqProofs [h]

@[simp] theorem queuedOnto_enterRun (h : q.QueuedOnto s.reports) : q.QueuedOnto (enterRun s).reports := by
  simp -implicitDefEqProofs [enterRun, h]

@[simp] theorem queuedOnto_leaveHeld (h : q.QueuedOnto s.reports) : q.QueuedOnto (leaveHeld s).reports := by
  unfold leaveHeld doOwed resumeThread
  dsimp only
  (repeat' split) <;> simp -implicitDefEqProofs [h]

@[simp] theorem queuedOnto_skipOther (p) (h : q.QueuedOnto s.reports) : q.QueuedOnto (skipOther p s).reports := by
  unfold skipOther; split <;> simp -implicitDefEqProofs [h]

@[simp] theorem queuedOnto_skipCurrent (h : q.QueuedOnto s.reports) : q.QueuedOnto (skipCurrent s).reports := by
  unfold skipCurrent; split <;> simp -implicitDefEqProofs [h]

/-! ### The commands -/

/-- An emission writes the Path Fetcher and the Segment Queue alone. -/
theorem execEmission_reports {t : State} (h : execEmission s = .next t) : t.reports = s.reports := by
  rcases execEmission_cases h with rfl | ⟨part, e, r, rfl⟩
  · rfl
  · unfold placeTaken
    split <;> rfl

/-- Every command but READ REPORTS and power-on. -/
theorem exec_queuedOnto (c : Instr) (s : State) (hread : c ≠ .readReports) (hpower : ∀ n p f, c ≠ .powerOn n p f) :
    Answers (fun t => s.reports.QueuedOnto t.reports) (exec c s) := by
  have h : s.reports.QueuedOnto s.reports := .refl _
  cases c with
  | readReports => exact absurd rfl hread
  | powerOn n p f => exact absurd rfl (hpower n p f)
  | emission => exact fun t ht => execEmission_reports ht ▸ h
  | dropInputChange | limitInput | wireLowInput | cutterDone | supplySag | contact | tensionOkChange =>
    exact (answers_next _ _).2 (queuedOnto_sampleInput _ _ _ h)
  | setup | loadCondition | loadPath | loadPart | clearStore | startJob | hold | resume | abort | skipPart =>
    simp only [exec, execSetup, execLoadCondition, execLoadPath, execLoadPart, execClearStore, execStartJob, execHold,
      execResume, execAbort, execSkipPart, answers_next]
    split
    · refine queuedOnto_jobGate ?_ h
      (repeat' split) <;> simp -implicitDefEqProofs [writeRecords, clearTables, enterHeld, abortJob]
    · exact h
  | validationWalkEnd =>
    rw [exec, execValidationWalkEnd, answers_next]
    dsimp only
    (repeat' split) <;> simp -implicitDefEqProofs
  | readStatus | readPart | readPeers | unknownRequest | resetStation | responseSent | requestArrival
      | jobLinkFrameDiscard | jobLinkByteTimeout =>
    simp only [exec, execReadStatus, execReadPart, execReadPeers, execUnknownRequest, execResetStation,
      execResponseSent, execRequestArrival, execJobLinkFrameDiscard, execJobLinkByteTimeout, hunt, bufferRequest,
      answers_next]
    (repeat' split) <;> simp -implicitDefEqProofs
  | powerWarn | listenTimerExpiry | servoPeriodExpiry | pulseMeasurement =>
    simp only [exec, execPowerWarn, execListenTimerExpiry, execServoPeriodExpiry, execPulseMeasurement, answers_next]
    split <;> simp -implicitDefEqProofs
  | dropWindowExpiry | cutTipTimeout | sagBlankExpiry | annealExpiry | jetWaitLimitExpiry | feedTimeout
      | tensionTimeout | tensionCheckExpiry =>
    simp only [exec, execDropWindowExpiry, execCutTipTimeout, execSagBlankExpiry, execAnnealExpiry,
      execJetWaitLimitExpiry, execFeedTimeout, execTensionTimeout, execTensionCheckExpiry, sagWatch, answers_next]
    split <;> simp -implicitDefEqProofs
  | transmitStart | transmissionComplete | collision | noticeArrival =>
    simp only [exec, execTransmitStart, execTransmissionComplete, execCollision, execNoticeArrival, answers_next]
    (repeat' split) <;> simp -implicitDefEqProofs [startFrame, endLastFrame, countCollision]
  | peerExpiry =>
    rw [exec, execPeerExpiry, answers_next]
    split
    · exact queuedOnto_finish _ (queuedOnto_grantTest (by simp -implicitDefEqProofs))
    · exact h
  | cellFrameDiscard | spacingTimerExpiry | lineTimerExpiry | refreshTimerExpiry | settleTimerExpiry =>
    simp only [exec, execCellFrameDiscard, execSpacingTimerExpiry, execLineTimerExpiry, execRefreshTimerExpiry,
      execSettleTimerExpiry, answers_next]
    (repeat' split) <;> simp -implicitDefEqProofs

end Sys2Proof.Machine

open Sys2Proof Sys2Proof.Machine

/-- Settles O13: every other command only queues reports onto those held, or counts them lost. -/
theorem reportsKeepTheirOrder : Obligations.ReportsKeepTheirOrder :=
  fun c s _ hread hpower ht => exec_queuedOnto c s hread hpower _ ht
end

section
/-! Frames of the job link and the bodies that come back from them (R169, R183): O14. -/

namespace Sys2Proof.Machine

/-- Two bytes hold every value below 2^16. -/
theorem leNat_toBytes_two {v : Nat} (h : v < 65536) : leNat (toBytes 2 v) = v := by
  rw [leNat_toBytes]
  exact Nat.mod_eq_of_lt h

/-- A frame begins with the start byte, so the Port passes over nothing. -/
theorem dropWhile_frameBytes (body : List Byte) :
    (frameBytes body).dropWhile (· != startByte) = frameBytes body :=
  List.dropWhile_cons_of_neg (by simp)

/-- The body of a frame comes back from its bytes: its length, the body and the check stand each in its place. -/
theorem frameBody_frameBytes {body : List Byte} (h1 : 1 ≤ body.length) (h400 : body.length ≤ 400) :
    frameBody (frameBytes body) = some body := by
  have hlen : leNat (toBytes 2 body.length) = body.length := leNat_toBytes_two (by omega)
  have hchecked : (toBytes 2 body.length ++ body).length = body.length + 2 := by
    rw [List.length_append, length_toBytes, Nat.add_comm]
  rw [frameBody, dropWhile_frameBytes, frameBytes]
  generalize hcheck : crc16 (toBytes 2 body.length ++ body) = check
  have htail : leNat (toBytes 2 check.toNat) = check.toNat := leNat_toBytes_two check.isLt
  have htwo : ((toBytes 2 body.length ++ body) ++ toBytes 2 check.toNat).take 2 = toBytes 2 body.length := by
    rw [List.append_assoc, List.take_left' (length_toBytes _ _)]
  have hfield : field ((toBytes 2 body.length ++ body) ++ toBytes 2 check.toNat) 2 body.length = body := by
    rw [field, List.append_assoc, List.drop_left' (length_toBytes _ _), List.take_left]
  rw [List.cons_append]
  dsimp only
  rw [htwo, hlen, List.take_left' hchecked, List.drop_left' hchecked, hcheck, htail, hfield]
  exact if_pos ⟨h1, h400, by rw [List.length_append, hchecked, length_toBytes], rfl⟩

end Sys2Proof.Machine

open Sys2Proof Sys2Proof.Machine

/-- Settles O14: the code and payload are the frame's body, and the body comes back from its frame. -/
theorem requestFramesAreReceived : Obligations.RequestFramesAreReceived := by
  intro r hr
  have hbody : frameBody r.frame = some (r.code :: r.payload) :=
    frameBody_frameBytes (Nat.succ_le_succ (Nat.zero_le _)) (Nat.succ_le_succ hr)
  rw [requestOf, hbody]
end

section
/-! The reads, their payloads and what they leave (R173, R174, R176, R183): O30 to O32; a report queued or lost (R175):
O33. -/

namespace Sys2Proof.Machine

variable {s : State}

/-! ### The layout of a payload (R183) -/

/-- Item `i` of a payload of items of one size. -/
theorem field_flatten {k : Nat} {items : List (List Byte)} (hk : ∀ x ∈ items, x.length = k) (tail : List Byte)
    {i : Nat} {x : List Byte} (hx : items[i]? = some x) : field (items.flatten ++ tail) (k * i) k = x := by
  induction items generalizing i with
  | nil => cases hx
  | cons y ys ih =>
    obtain ⟨hy, hys⟩ := List.forall_mem_cons.1 hk
    rw [List.flatten_cons, List.append_assoc, field]
    cases i with
    | zero =>
      cases hx
      rw [Nat.mul_zero, List.drop_zero, List.take_left' hy]
    | succ i =>
      rw [Nat.mul_succ, Nat.add_comm, ← List.drop_drop, List.drop_left' hy]
      exact ih hys hx

theorem length_intBytes (v : Int) : (intBytes v).length = 4 := length_toBytes _ _

/-- The payload of READ STATUS with its items of one byte written out (R173, R183). -/
theorem statusBytes_eq (s : State) :
    statusBytes s =
      BitVec.ofNat 8 s.seq.station.code :: BitVec.ofNat 8 (activityCode s.seq.activity) ::
        BitVec.ofNat 8 ((s.seq.current.map Fin.val).getD 255) :: BitVec.ofNat 8 (passCode s.currentPass) ::
        (intBytes s.exe.position.x ++ (intBytes s.exe.position.y ++
          BitVec.ofNat 8 s.gen.level :: BitVec.ofNat 8 s.gen.target :: BitVec.ofNat 8 s.coord.drawn ::
          BitVec.ofNat 8 s.coord.ap :: BitVec.ofNat 8 s.coord.af :: BitVec.ofNat 8 s.coord.jet.code ::
          (toBytes 2 s.coord.stamp ++
            flagByte (s.coord.mode == .degraded) :: BitVec.ofNat 8 (causeCode (s.seq.halt.map HaltCode.cause)) ::
            BitVec.ofNat 8 s.reports.items.length :: flagByte s.link.overflow ::
            BitVec.ofNat 8 s.seq.dropCount :: BitVec.ofNat 8 s.seq.skipCount :: s.gap.last.bytes))) := by
  have hone (v : Nat) : toBytes 1 v = [BitVec.ofNat 8 v] := rfl
  unfold statusBytes
  simp only [hone, List.append_assoc, List.cons_append, List.nil_append]

theorem length_statusBytes (s : State) : (statusBytes s).length = 33 := by
  rw [statusBytes_eq]
  rfl

theorem length_perPassBytes (f : PerPass) (n absent : Nat) : (f.bytes n absent).length = 3 * n := by
  simp only [PerPass.bytes, List.length_append, length_toBytes]
  omega

theorem length_pathPointBytes (free : Nat) (p : Option PathPoint) : (pathPointBytes free p).length = 11 := by
  cases p <;> simp [pathPointBytes, length_toBytes]

theorem length_tabBytes (freeAt freeCond : Nat) (t : Option TabPoint) : (tabBytes freeAt freeCond t).length = 11 := by
  cases t <;> simp [tabBytes, length_toBytes, length_intBytes]

theorem length_hostBlock (r : PartRecord) : r.hostBlock.length = 29 := by
  simp [PartRecord.hostBlock, length_toBytes, length_intBytes, length_perPassBytes]

theorem length_deviceBlock (r : PartRecord) (number clock : Nat) : (r.deviceBlock number clock).length = 42 := by
  simp [PartRecord.deviceBlock, length_toBytes, length_pathPointBytes, length_tabBytes]

theorem length_peerBytes (e : Option Peer) : (peerBytes e).length = 10 := by
  cases e <;> rfl

/-- The entries that READ PEERS returns, the own one as not present (R174). -/
def State.peerItems (s : State) : List (List Byte) :=
  (List.finRange 8).map fun n => peerBytes (if n = s.straps.station then none else s.peer n)

theorem length_of_mem_peerItems {x : List Byte} (hx : x ∈ s.peerItems) : x.length = 10 := by
  obtain ⟨n, -, rfl⟩ := List.mem_map.1 hx
  exact length_peerBytes _

theorem peerItems_getElem? (s : State) (n : StationNo) :
    s.peerItems[n.val]? = some (peerBytes (if n = s.straps.station then none else s.peer n)) := by
  simp [State.peerItems]

theorem peersBytes_eq (s : State) :
    peersBytes s = s.peerItems.flatten ++ (toBytes 2 s.coord.cmax ++ [flagByte s.coord.cmaxSeen]) :=
  List.append_assoc _ _ _

theorem length_peerItems (s : State) : s.peerItems.flatten.length = 80 := by
  rw [List.length_flatten, List.map_congr_left fun x hx => length_of_mem_peerItems hx, State.peerItems, List.map_map]
  rfl

/-! ### The reads (R173, R174, R176) -/

theorem execReadStatus_answers (hf : s.front = some ⟨0x0B, []⟩) :
    exec .readStatus s =
      .next { s with link := { s.answering ⟨0x0B, []⟩ .ok (statusBytes s) with overflow := false } } := by
  rw [exec, execReadStatus, taking_of_front hf]
  change Host.Outcome.next ((answer .ok (statusBytes s) s).modLink _) = _
  rw [answer_eq (head_of_front hf)]
  rfl

theorem parse_readPart (b : Byte) : Request.parse ⟨0x0C, [b]⟩ = .readPart b.toNat := by
  simp [Request.parse, leNat]

theorem execReadPart_outside {b : Byte} (hf : s.front = some ⟨0x0C, [b]⟩) (hb : 32 ≤ b.toNat) :
    exec .readPart s = .next { s with link := s.answering ⟨0x0C, [b]⟩ .refusedRange [] } := by
  rw [exec, execReadPart, taking_of_front hf, parse_readPart]
  dsimp only
  rw [dif_neg (Nat.not_lt.2 hb), answer_eq (head_of_front hf)]

theorem execReadPart_answers {b : Byte} {p : PartNo} (hf : s.front = some ⟨0x0C, [b]⟩) (hp : p.val = b.toNat) :
    exec .readPart s = .next { s with
      link := s.answering ⟨0x0C, [b]⟩ .ok (b :: (s.part p).hostBlock ++ (s.part p).deviceBlock p.val s.now) } := by
  have hpart : (⟨b.toNat, hp ▸ p.isLt⟩ : PartNo) = p := Fin.ext hp.symm
  rw [exec, execReadPart, taking_of_front hf, parse_readPart]
  dsimp only
  rw [dif_pos (hp ▸ p.isLt), hpart, toBytes_one rfl, answer_eq (head_of_front hf), hp]
  rfl

theorem execReadPeers_answers (hf : s.front = some ⟨0x0D, []⟩) :
    exec .readPeers s = .next { s with link := s.answering ⟨0x0D, []⟩ .ok (peersBytes s) } := by
  rw [exec, execReadPeers, taking_of_front hf]
  exact congrArg Host.Outcome.next (answer_eq (head_of_front hf) _ _)

theorem execReadReports_answers (hf : s.front = some ⟨0x0E, []⟩) :
    exec .readReports s = .next { s with
      reports := { items := s.reports.items.drop 8, lost := 0 }
      link := s.answering ⟨0x0E, []⟩ .ok (reportsBytes s.reports) } := by
  rw [exec, execReadReports, taking_of_front hf]
  change Host.Outcome.next ((answer .ok (reportsBytes s.reports) s).modReports _) = _
  rw [answer_eq (head_of_front hf)]
  rfl

end Sys2Proof.Machine

open Sys2Proof Sys2Proof.Machine

/-- Settles O30: the payload has a fixed size, so each item is read off at its place. -/
theorem readStatusReturnsTheItems : Obligations.ReadStatusReturnsTheItems := by
  intro s hf
  refine ⟨statusBytes s, length_statusBytes s, execReadStatus_answers hf, ?_⟩
  rw [statusBytes_eq]
  and_intros <;> rfl

/-- Settles O31: the sizes of the blocks, and the entries of READ PEERS as items of one size. -/
theorem readPartAndPeersChangeNothing : Obligations.ReadPartAndPeersChangeNothing := by
  refine ⟨fun s b hf => ⟨execReadPart_outside hf, fun p hp => ⟨?_, execReadPart_answers hf hp⟩⟩, fun s hf => ?_⟩
  · rw [List.length_append, List.length_cons, length_hostBlock, length_deviceBlock]
  · refine ⟨peersBytes s, ?_, execReadPeers_answers hf, fun n => ?_, ?_, ?_⟩
    all_goals rw [peersBytes_eq]
    · rw [List.length_append, length_peerItems]
      rfl
    · exact field_flatten (fun _ => length_of_mem_peerItems) _ (peerItems_getElem? s n)
    · rw [field, List.drop_left' (length_peerItems s)]
      rfl
    · rw [List.getD_append_right _ _ _ _ (by rw [length_peerItems]; decide), length_peerItems]
      rfl

/-- Settles O32: the number returned is that of the reports taken, 8 at most. -/
theorem readReportsRemovesTheOldest : Obligations.ReadReportsRemovesTheOldest := by
  intro s hf
  rw [execReadReports_answers hf, reportsBytes, List.length_take]
  rfl

/-- Settles O33, by the room in the queue. -/
theorem reportsAreQueuedOrCountedLost : Obligations.ReportsAreQueuedOrCountedLost := by
  refine fun s k p c d => ⟨fun hroom => ?_, fun hfull => ?_⟩
  · rw [queueReport, State.modReports, if_pos (by exact hroom)]
  · rw [queueReport, State.modReports, if_neg (by exact Nat.not_lt.2 hfull)]
end

section
/-! The queue of commands: a step takes its front (O1), and no command touches it, is refused, or, EMISSION apart,
stops the part (O2). An operation of an event leaves the queue by its frame lemma; those without one are taken here. -/

namespace Sys2Proof.Machine

variable {s : State}

/-! ### The step (log 6) -/

theorem step_idles (h : s.pending = []) : step s = .next s := by
  rw [step, h]

theorem step_runs_front {c : Instr} {rest : List Instr} (h : s.pending = c :: rest) :
    step s = exec c (s.setPending rest) := by
  rw [step, h]

/-! ### Machine/Ops.lean -/

@[simp] theorem interruptFound_pending (c : Cause) (s : State) : (interruptFound c s).pending = s.pending := by
  rw [interruptFound_eq, interruptAmong_rest]

theorem jobGate_pending {takenIn : List Station} {body : State → State} (hbody : (body s).pending = s.pending) :
    (jobGate takenIn body s).pending = s.pending := by
  unfold jobGate
  split
  · simp
  · split
    · exact hbody
    · simp

/-! ### Machine/Power.lean -/

@[simp] theorem enterPowerDown_pending (s : State) : (enterPowerDown s).pending = s.pending := by
  simp [enterPowerDown, portPowerDown]

@[simp] theorem resetStation_pending (s : State) : (resetStation s).pending = s.pending := by
  rw [resetStation_clears]; rfl

/-! ### Machine/Cell.lean -/

@[simp] theorem completeFrame_pending (n : Notice) (s : State) : (completeFrame n s).pending = s.pending := by
  unfold completeFrame; dsimp only; split <;> simp

@[simp] theorem returnLine_pending (s : State) : (returnLine s).pending = s.pending := by
  unfold returnLine; split <;> simp

@[simp] theorem restoreLine_pending (s : State) : (restoreLine s).pending = s.pending := by
  unfold restoreLine; split <;> simp

@[simp] theorem completeLastFrame_pending (n : Notice) (s : State) :
    (completeLastFrame n s).pending = s.pending := by
  simp [completeLastFrame, endLastFrame]

@[simp] theorem lineActivity_pending (s : State) : (lineActivity s).pending = s.pending := by
  unfold lineActivity; split <;> simp

@[simp] theorem seeNotice_pending (n : Notice) (s : State) : (seeNotice n s).pending = s.pending := by
  unfold seeNotice; split <;> simp

@[simp] theorem conflictTest_pending (p : StationNo) (n : Notice) (s : State) :
    (conflictTest p n s).pending = s.pending := by
  unfold conflictTest; split <;> simp

@[simp] theorem peerNotice_pending (p : StationNo) (n : Notice) (s : State) :
    (peerNotice p n s).pending = s.pending := by
  unfold peerNotice; dsimp only; split <;> simp [setPeer]

@[simp] theorem ownNumberNotice_pending (n : Notice) (s : State) : (ownNumberNotice n s).pending = s.pending := by
  unfold ownNumberNotice; dsimp only; split <;> simp

@[simp] theorem enterDegraded_pending (s : State) : (enterDegraded s).pending = s.pending := by
  unfold enterDegraded; split <;> simp

/-! ### Machine/Jobs.lean -/

@[simp] theorem enterRun_pending (s : State) : (enterRun s).pending = s.pending := by simp [enterRun]

@[simp] theorem doOwed_pending (o : OwedStep) (s : State) : (doOwed o s).pending = s.pending := by
  unfold doOwed; split <;> simp

@[simp] theorem resumeThread_pending (s : State) : (resumeThread s).pending = s.pending := by
  unfold resumeThread; (repeat' split) <;> simp

@[simp] theorem leaveHeld_pending (s : State) : (leaveHeld s).pending = s.pending := by
  unfold leaveHeld; dsimp only; split <;> simp

@[simp] theorem skipOther_pending (p : PartNo) (s : State) : (skipOther p s).pending = s.pending := by
  unfold skipOther; split <;> simp

@[simp] theorem skipCurrent_pending (s : State) : (skipCurrent s).pending = s.pending := by
  unfold skipCurrent; split <;> simp

/-! ### Machine/Period.lean -/

theorem placeTaken_pending (part : PartNo) (e : Emission) (r : Placed) (s : State) :
    (placeTaken part e r s).pending = s.pending := by
  unfold placeTaken; split <;> rfl

/-! ### The commands -/

/-- A command run in `s` answers a next state, with the queue as it was. -/
def Completes (s : State) (r : Result) : Prop := ∃ t, r = .next t ∧ t.pending = s.pending

theorem completes_next {t : State} : Completes s (.next t) ↔ t.pending = s.pending := by
  simp [Completes]

theorem execPowerOn_completes (n : Fin 8) (p f : Fin 16) (s : State) : Completes s (execPowerOn n p f s) := by
  obtain ⟨nest, reports, hx, -⟩ := execPowerOn_next n p f s
  exact ⟨_, hx, rfl⟩

/-- An emission places an entry or changes nothing; a reading that never ends is a fault (log 17). -/
theorem execEmission_completes_or_faults (s : State) :
    Completes s (execEmission s) ∨ execEmission s = .fault .emissionNeverEnds := by
  cases hemit : s.emit with
  | none => exact .inl ⟨s, by rw [execEmission, hemit], rfl⟩
  | some reading =>
    cases reading with
    | none => exact .inr (by rw [execEmission, hemit])
    | some t =>
      have hnext : execEmission s = .next t := by rw [execEmission, hemit]
      refine .inl ⟨t, hnext, ?_⟩
      obtain rfl | ⟨part, e, r, rfl⟩ := execEmission_cases hnext
      · rfl
      · exact placeTaken_pending part e r s

theorem exec_completes (c : Instr) (s : State) (hc : c ≠ .emission) : Completes s (exec c s) := by
  cases c with
  | emission => exact absurd rfl hc
  | powerOn n p f => exact execPowerOn_completes n p f s
  | dropInputChange | limitInput | wireLowInput | cutterDone | supplySag | contact | tensionOkChange =>
    exact completes_next.2 (by simp)
  | setup | loadCondition | loadPath | loadPart | clearStore | startJob | hold | resume | abort | skipPart =>
    simp only [exec, execSetup, execLoadCondition, execLoadPath, execLoadPart, execClearStore, execStartJob, execHold,
      execResume, execAbort, execSkipPart, completes_next]
    split
    · refine jobGate_pending ?_
      (repeat' split) <;> simp [writeRecords, clearTables, enterHeld, abortJob]
    · rfl
  | validationWalkEnd =>
    rw [exec, execValidationWalkEnd, completes_next]
    dsimp only
    (repeat' split) <;> simp
  | readStatus | readPart | readPeers | readReports | unknownRequest | resetStation | responseSent | requestArrival
      | jobLinkFrameDiscard | jobLinkByteTimeout =>
    simp only [exec, execReadStatus, execReadPart, execReadPeers, execReadReports, execUnknownRequest,
      execResetStation, execResponseSent, execRequestArrival, execJobLinkFrameDiscard, execJobLinkByteTimeout, hunt,
      bufferRequest, completes_next]
    (repeat' split) <;> simp
  | powerWarn | listenTimerExpiry | servoPeriodExpiry | pulseMeasurement =>
    simp only [exec, execPowerWarn, execListenTimerExpiry, execServoPeriodExpiry, execPulseMeasurement, completes_next]
    split <;> simp
  | dropWindowExpiry | cutTipTimeout | sagBlankExpiry | annealExpiry | jetWaitLimitExpiry | feedTimeout
      | tensionTimeout | tensionCheckExpiry =>
    simp only [exec, execDropWindowExpiry, execCutTipTimeout, execSagBlankExpiry, execAnnealExpiry,
      execJetWaitLimitExpiry, execFeedTimeout, execTensionTimeout, execTensionCheckExpiry, sagWatch, completes_next]
    split <;> simp
  | transmitStart | transmissionComplete | collision | noticeArrival | cellFrameDiscard | spacingTimerExpiry
      | lineTimerExpiry | refreshTimerExpiry | peerExpiry | settleTimerExpiry =>
    simp only [exec, execTransmitStart, execTransmissionComplete, execCollision, execNoticeArrival,
      execCellFrameDiscard, execSpacingTimerExpiry, execLineTimerExpiry, execRefreshTimerExpiry, execPeerExpiry,
      execSettleTimerExpiry, completes_next]
    (repeat' split) <;> simp [startFrame, endSending, endLastFrame, countCollision, setPeer]

/-- All that a command can answer: a next state with the queue as it was or, for EMISSION alone, the fault of
log 17. -/
theorem exec_cases (c : Instr) (s : State) :
    Completes s (exec c s) ∨ c = .emission ∧ exec c s = .fault .emissionNeverEnds := by
  by_cases hc : c = .emission
  · subst hc
    exact (execEmission_completes_or_faults s).imp_right fun hf => ⟨rfl, hf⟩
  · exact .inl (exec_completes c s hc)

end Sys2Proof.Machine

open Sys2Proof Sys2Proof.Machine

/-- Settles O1, by the two forms of the queue. -/
theorem stepRunsFrontCommand : Obligations.StepRunsFrontCommand :=
  ⟨fun _ _ _ h => step_runs_front h, fun _ h => step_idles h⟩

/-- Settles O2: a next state with the queue as it was is all that a command other than EMISSION can answer, and
EMISSION's one other answer is a fault, which is no refusal. -/
theorem commandsLeaveQueueAndComplete : Obligations.CommandsLeaveQueueAndComplete := by
  refine ⟨fun c s t ht => ?_, fun c s r hr => ?_, fun c s hc => ?_⟩
  · obtain ⟨u, hu, hqueue⟩ | ⟨-, hf⟩ := exec_cases c s
    · cases hu.symm.trans ht
      exact hqueue
    · cases hf.symm.trans ht
  · obtain ⟨u, hu, -⟩ | ⟨-, hf⟩ := exec_cases c s
    · cases hu.symm.trans hr
    · cases hf.symm.trans hr
  · obtain ⟨t, ht, -⟩ := exec_completes c s hc
    exact ⟨t, ht⟩
end
